-- ==== Sys2Proof/Word.lean ====
section
/-! DEFINITION. The word types of PIF-CORE: 32-bit words (R57, R81), bytes (R58) and binary32 values as bit patterns (R8, R15). -/

namespace Sys2Proof

/-- A 32-bit word: a register, a bus datum, a command word (R22, R57, R81). -/
abbrev Word := BitVec 32

/-- One byte lane of a word (R58). -/
abbrev Byte := BitVec 8

/-- An IEEE 754 binary32 value, held as its bit pattern: bit 31 sign, bits 30:23 biased exponent, bits 22:0 fraction
(R8). `bits` and `asf32` of R15 are the identity on this type. -/
abbrev F32 := BitVec 32

end Sys2Proof
end

