-- ==== Sys2Proof/Machine/Float.lean ====
section
/-! DEFINITION. IEEE 754 binary32 arithmetic (R8 to R15), computed exactly and rounded once. Every finite binary32 value is
an integer multiple of 2^-149, so a magnitude is a natural number of such units. -/

namespace Sys2Proof.Machine

open Sys2Proof

/-- +0.0 -/
def fZero : F32 := 0x00000000#32
/-- 0.5 -/
def fHalf : F32 := 0x3F000000#32
/-- 1.0 -/
def fOne : F32 := 0x3F800000#32
/-- -1.0 -/
def fMinusOne : F32 := 0xBF800000#32
/-- 4.0 -/
def fFour : F32 := 0x40800000#32
/-- The canonical quiet NaN (R10). -/
def canonicalNaN : F32 := 0x7FC00000#32

/-- Bit 31, the sign (R8). -/
def fSign (a : F32) : Bool := a.getLsbD 31

/-- Bits 30:0. -/
def fMag (a : F32) : Nat := (a.extractLsb' 0 31).toNat

/-- Bits 30:23, the biased exponent (R8). -/
def fExp (a : F32) : Nat := (a.extractLsb' 23 8).toNat

/-- Bits 22:0, the fraction (R8). -/
def fFrac (a : F32) : Nat := (a.extractLsb' 0 23).toNat

/-- Exponent all ones and a nonzero fraction. -/
def fIsNaN (a : F32) : Bool := decide (0x7F800000 < fMag a)

/-- Exponent all ones and a zero fraction. -/
def fIsInf (a : F32) : Bool := decide (fMag a = 0x7F800000)

/-- Neither an infinity nor a NaN. -/
def fIsFinite (a : F32) : Bool := decide (fMag a < 0x7F800000)

/-- The magnitude of a finite value in units of 2^-149; subnormals in full (R11). -/
def fUnits (a : F32) : Nat :=
  if fExp a = 0 then fFrac a else (2 ^ 23 + fFrac a) * 2 ^ (fExp a - 1)

/-- A finite value in units of 2^-149. -/
def fSigned (a : F32) : Int := if fSign a then -(fUnits a : Int) else (fUnits a : Int)

/-- The pattern with the given sign and bits 30:0. -/
def fPack (neg : Bool) (mag : Nat) : F32 := BitVec.ofNat 32 ((if neg then 2 ^ 31 else 0) + mag)

/-- An infinity. -/
def fInf (neg : Bool) : F32 := fPack neg 0x7F800000

/-- The integer nearest to `n / d`, a tie to the even one (R9). -/
def rneDiv (n d : Nat) : Nat :=
  if 2 * (n % d) < d then n / d
  else if d < 2 * (n % d) then n / d + 1
  else n / d + n / d % 2

/-- How many low bits a magnitude of `q` units loses to a 24-bit significand. -/
def dropBits (q : Nat) : Nat := Nat.log2 q - 23

/-- Bits 30:0 of the binary32 value nearest to `num / den` units of 2^-149, ties to even, overflow to infinity (R9, R16).
With `k` bits dropped and significand `m`, the pattern is `k * 2^23 + m`: the implicit bit of `m` carries into the exponent. -/
def roundMag (num den : Nat) : Nat :=
  min 0x7F800000 (dropBits (num / den) * 2 ^ 23 + rneDiv num (den * 2 ^ dropBits (num / den)))

/-- The rounded value with its sign (R9). -/
def roundUnits (neg : Bool) (num den : Nat) : F32 := fPack neg (roundMag num den)

/-- `neg(v)`: bit 31 inverted, nothing else (R15). -/
def fneg (a : F32) : F32 := a ^^^ 0x80000000#32

/-- `fadd(a, b)` (R9, R10). An exact zero sum is +0 unless both operands are -0. -/
def fadd (a b : F32) : F32 :=
  if fIsNaN a || fIsNaN b then canonicalNaN
  else if fIsInf a then (if fIsInf b && (fSign a != fSign b) then canonicalNaN else a)
  else if fIsInf b then b
  else if fSigned a + fSigned b = 0 then fPack (fSign a && fSign b) 0
  else roundUnits (decide (fSigned a + fSigned b < 0)) (fSigned a + fSigned b).natAbs 1

/-- `fsub(a, b)` (R9, R10): IEEE 754 defines it as `a + (-b)`. -/
def fsub (a b : F32) : F32 := fadd a (fneg b)

/-- `fmul(a, b)` (R9, R10). -/
def fmul (a b : F32) : F32 :=
  if fIsNaN a || fIsNaN b then canonicalNaN
  else if fIsInf a || fIsInf b then
    (if fMag a = 0 ∨ fMag b = 0 then canonicalNaN else fInf (fSign a != fSign b))
  else roundUnits (fSign a != fSign b) (fUnits a * fUnits b) (2 ^ 149)

/-- `fdiv(a, b)` (R9, R10). -/
def fdiv (a b : F32) : F32 :=
  if fIsNaN a || fIsNaN b then canonicalNaN
  else if fIsInf a then (if fIsInf b then canonicalNaN else fInf (fSign a != fSign b))
  else if fIsInf b then fPack (fSign a != fSign b) 0
  else if fMag b = 0 then (if fMag a = 0 then canonicalNaN else fInf (fSign a != fSign b))
  else roundUnits (fSign a != fSign b) (fUnits a * 2 ^ 149) (fUnits b)

/-- `f32(n)`: an integer converted with round to nearest even (R9). -/
def fOfNat (n : Nat) : F32 := roundUnits false (n * 2 ^ 149) 1

/-- Where a value that is not a NaN stands in the numerical order; both zeros stand at 0 (R12). -/
def fKey (a : F32) : Int := if fSign a then -(fMag a : Int) else (fMag a : Int)

/-- `a < b`, false on a NaN (R12). -/
def flt (a b : F32) : Bool := !fIsNaN a && !fIsNaN b && decide (fKey a < fKey b)

/-- `a <= b`, false on a NaN (R12). -/
def fle (a b : F32) : Bool := !fIsNaN a && !fIsNaN b && decide (fKey a ≤ fKey b)

/-- `a == b`, false on a NaN; `-0 == +0` (R12). -/
def feq (a b : F32) : Bool := !fIsNaN a && !fIsNaN b && decide (fKey a = fKey b)

/-- `floor(t)` (R13): exact; a zero or infinity is returned as it is. -/
def ffloor (t : F32) : F32 :=
  if fIsNaN t then canonicalNaN
  else if fIsInf t || decide (fMag t = 0) then t
  else if fSign t then roundUnits true ((fUnits t + (2 ^ 149 - 1)) / 2 ^ 149 * 2 ^ 149) 1
  else roundUnits false (fUnits t / 2 ^ 149 * 2 ^ 149) 1

/-- `clamp(v, lo, hi)`; a NaN passes (R14). -/
def fclamp (v lo hi : F32) : F32 :=
  if flt v lo then lo else if flt hi v then hi else v

/-- A complex element: a pair of binary32 values (R18). -/
structure Complex32 where
  re : F32
  im : F32
deriving DecidableEq, Repr

/-- `cmul(w, b)`: four products, one difference, one sum, each rounded once (R20). -/
def cmul (w b : Complex32) : Complex32 :=
  { re := fsub (fmul w.re b.re) (fmul w.im b.im)
    im := fadd (fmul w.re b.im) (fmul w.im b.re) }

end Sys2Proof.Machine
end

