-- ==== Sys2Proof/Config.lean ====
section
/-! DEFINITION. The implementation parameters of R6 and the free values of the model. Every value the spec marks OPEN is an
opaque constant: nothing in Lean can evaluate it, so a theorem about the model holds whatever it is. -/

namespace Sys2Proof

/-- A state of an envelope follower (R137). R50 gives no contents: a state is a code (log 6). -/
structure EfState where
  code : Nat
deriving DecidableEq, Repr, Inhabited

/-- A state of a compressor (R138), coded as `EfState` is (log 6). -/
structure CompState where
  code : Nat
deriving DecidableEq, Repr, Inhabited

/-- A state of a dither/noise stage, its random generator included (R139), coded as `EfState` is (log 6). -/
structure DnState where
  code : Nat
deriving DecidableEq, Repr, Inhabited

/-- A state of one distortion algorithm (R142), coded as `EfState` is (log 6). -/
structure ShaperState where
  code : Nat
deriving DecidableEq, Repr, Inhabited

/-- A state of one block-rate smoother (R143), coded as `EfState` is (log 6). -/
structure SmoothState where
  code : Nat
deriving DecidableEq, Repr, Inhabited

/-- The three ways the two channels' last envelopes may form ENV_OUT (R161). -/
inductive EnvCombine where
  | left
  | right
  | max
deriving DecidableEq, Repr, Inhabited

/-- LOG2_NMAX, the largest FFT order: fixed at 12 (R6, R90). -/
def Config.log2Nmax : Nat := 12

/-- BLOCK_MAX less one; OPEN in 0..1023, so that BLOCK_MAX lies in 1..1024 (R6; log 9). -/
opaque Config.blockMaxIndex : Fin 1024

/-- BLOCK_MAX, the largest block size MOD_PREPARE accepts (R6, R154). -/
def Config.blockMax : Nat := Config.blockMaxIndex.val + 1

/-- DLY_SIZE less four; OPEN, so that DLY_SIZE lies in 4..32768 (R6; log 9). -/
opaque Config.dlySizeIndex : Fin 32765

/-- DLY_SIZE, the words of delay-line memory (R6, R29). -/
def Config.dlySize : Nat := Config.dlySizeIndex.val + 4

/-- NUM_DIST less one; OPEN, so that K lies in 1..255 (R6; log 9). -/
opaque Config.numDistIndex : Fin 255

/-- NUM_DIST, the number K of distortion algorithms in the cyclic set (R6, R142). -/
def Config.numDist : Nat := Config.numDistIndex.val + 1

/-- CORE_BASE in units of 256 KiB; OPEN (R6, R56; log 9). -/
opaque Config.coreBaseIndex : Nat

/-- CORE_BASE, the byte address of the window on the host bus, 256 KiB aligned (R6, R56). -/
def Config.coreBase : Nat := Config.coreBaseIndex * 0x40000

/-- Which of its two values DRIVE_MAX has; OPEN (R6, R141; log 9). -/
opaque Config.driveMaxIsEight : Bool

/-- DRIVE_MAX, 8.0 or 4.0 (R6, R141). -/
def Config.driveMax : F32 := if Config.driveMaxIsEight then 0x41000000#32 else 0x40800000#32

/-- DRIVE_MIN, the drive gain at amp = 0: 1.0 (R6, R141). -/
def Config.driveMin : F32 := 0x3F800000#32

/-- NOISE_GAIN; OPEN (R6). Only the reference decomposition of R139 names it, which is no requirement: a noise stage that
uses it has it inside `Config.dnStep`. -/
opaque Config.noiseGain : F32

/-- KNEE_DB, the compressor knee; OPEN (R6, R140). -/
opaque Config.kneeDb : F32

/-- REMAP_ATTACK, attack in milliseconds; OPEN (R140). -/
opaque Config.remapAttack : F32 → F32
/-- REMAP_RELEASE, release in milliseconds; OPEN (R140). -/
opaque Config.remapRelease : F32 → F32
/-- REMAP_THRESH, threshold in decibels; OPEN (R140). -/
opaque Config.remapThresh : F32 → F32
/-- REMAP_RATIO, compression ratio; OPEN (R140). -/
opaque Config.remapRatio : F32 → F32

/-- ENV_COMBINE; OPEN (R6, R161). -/
opaque Config.envCombine : EnvCombine

/-- `EF.prepare(sampleRate)` (R137). -/
opaque Config.efPrepare : F32 → EfState
/-- `EF.set(s, attack_ms, release_ms)` (R137). -/
opaque Config.efSet : EfState → F32 → F32 → EfState
/-- `EF.step(s, x)`, the next state and the envelope e (R137). -/
opaque Config.efStep : EfState → F32 → EfState × F32

/-- `COMP.prepare(sampleRate)` (R138). -/
opaque Config.compPrepare : F32 → CompState
/-- `COMP.set(s, threshold_db, ratio, knee_db, sidechain)` (R138). -/
opaque Config.compSet : CompState → F32 → F32 → F32 → F32 → CompState
/-- `COMP.step(s, x, key)` (R138). -/
opaque Config.compStep : CompState → F32 → F32 → CompState × F32

/-- `DN.prepare(sampleRate)`; it sets the generator's seed (R139). -/
opaque Config.dnPrepare : F32 → DnState
/-- `DN.step(s, x, derez, morph)` (R139). -/
opaque Config.dnStep : DnState → F32 → F32 → F32 → DnState × F32

/-- `SHAPER[k].prepare(sampleRate)` (R142). -/
opaque Config.shaperPrepare : Nat → F32 → ShaperState
/-- `SHAPER[k].step(s, x)` (R142). -/
opaque Config.shaperStep : Nat → ShaperState → F32 → ShaperState × F32

/-- `SMOOTH.prepare(blockRate)` (R143). -/
opaque Config.smoothPrepare : F32 → SmoothState
/-- `SMOOTH.step(s, x)` (R143). -/
opaque Config.smoothStep : SmoothState → F32 → SmoothState × F32

/-- FREE VALUE. The byte that reset number `epoch` leaves at a window offset: "each word holds some 32-bit value that reset
does not choose", "not necessarily the same across resets" (R71; log 4). -/
opaque Config.powerOnByte : Nat → Nat → Byte

/-- FREE VALUE. The sine at a quarter-turn argument (in units of 2^-149 turn) that the enclosure of Machine/Sine.lean does
not decide. No binary32 phase and no twiddle index has one (log 8). -/
opaque Config.undecidedSine : Nat → F32

end Sys2Proof
end

