-- ==== Sys2Proof/Machine/State.lean ====
section
/-! DEFINITION. The state of PIF-CORE as plain data (R21), the reasons a step can stop, and the state right after reset
(R194). INVENTORY.md lists every piece with its rule and reset value. -/

namespace Sys2Proof.Machine

open Sys2Proof

/-- Why the machine stops. -/
inductive Fault where
  /-- Raised by performing a host access whose offset lies outside the 256 KiB window: the spec gives the core no such
  address (R56). Safe: the model stops where the platform would route the access elsewhere (log 12). -/
  | outsideWindow
deriving DecidableEq, Repr

/-- Why an instruction has no meaning. -/
inductive Refusal where
  /-- Raised by an arm of exec whose instruction has no meaning yet; no arm of this model uses it. Safe. -/
  | notModelled (mnemonic : String)
deriving DecidableEq, Repr

/-- The cause codes of R171. Codes 0x08 to 0xFF are never raised, so they are no constructor. -/
inductive Cause where
  | none
  | illegalCmd
  | badShape
  | badFftSize
  | dlyWindow
  | notPrepared
  | alreadyPrepared
  | badBlockSize
deriving DecidableEq, Repr

/-- The active waveform (R36). "The value 3 is never held", so it is no constructor. -/
inductive Shape where
  | sine
  | triangle
  | square
deriving DecidableEq, Repr

/-- The eight control inputs in the order of R48: CTL0 to CTL7. -/
inductive Ctl where
  | texture
  | morphKnob
  | morphCv
  | amp
  | compressor
  | sideChain
  | attack
  | release
deriving DecidableEq, Repr

/-- One value per control input, in the order of R48. -/
structure Bank (α : Type) where
  texture : α
  morphKnob : α
  morphCv : α
  amp : α
  compressor : α
  sideChain : α
  attack : α
  release : α
deriving DecidableEq, Repr

/-- The seven snapshot registers in the order of R49. -/
inductive Prm where
  | texture
  | morph
  | amp
  | compressor
  | sideChain
  | attack
  | release
deriving DecidableEq, Repr

/-- The parameter snapshot P (R49, R158). -/
structure Params where
  texture : F32
  morph : F32
  amp : F32
  compressor : F32
  sideChain : F32
  attack : F32
  release : F32
deriving DecidableEq, Repr

/-- The oscillator registers (R36 to R40). -/
structure Oscillator where
  shape : Shape
  sampleRate : F32
  phase : F32
  increment : F32
  pulseWidth : F32
deriving DecidableEq, Repr

/-- The module registers (R43 to R47). -/
structure ModuleRegs where
  sampleRate : F32
  blockSize : Word
  blockRate : F32
  sel0 : BitVec 8
  sel1 : BitVec 8
  envOut : F32
  gateIn : BitVec 2
  gateOut : BitVec 2
deriving DecidableEq, Repr

/-- The collaborator states of one channel strip (R50); `sh` lists SH[c][0..K-1]. -/
structure Strip where
  ef : EfState
  comp : CompState
  dn : DnState
  sh : List ShaperState
deriving DecidableEq, Repr

/-- The collaborator states MOD_PREPARE makes defined: SM[0..7] and the two strips (R50, R51). -/
structure Collaborators where
  smooth : Bank SmoothState
  strip0 : Strip
  strip1 : Strip
deriving DecidableEq, Repr

/-- What the sequencer holds while BUSY: the accepted word and the operands as they stood at acceptance (R53). -/
structure Latched where
  word : Word
  arg0 : Word
  arg1 : Word
deriving DecidableEq, Repr

/-- The width of a host access. The core performs 32-bit accesses only (R66). -/
inductive BusWidth where
  | byte
  | half
  | word
  | wider
deriving DecidableEq, Repr

/-- A read, or a write with its data word (R57). -/
inductive BusOp where
  | read
  | write (data : Word)
deriving DecidableEq, Repr

/-- One host access: its byte offset from CORE_BASE (R56), its width and direction (R57). -/
structure BusAccess where
  offset : Nat
  width : BusWidth
  op : BusOp
deriving DecidableEq, Repr

/-- A bus response: the error flag of R66 and the data a read returns (zero for a write, log 13). -/
structure BusReply where
  error : Bool
  data : Word
deriving DecidableEq, Repr

/-- The five memories of R60, keyed by byte offset in the window: the bytes written since reset, offsets strictly rising. -/
abbrev Memory := List Host.Cell

/-- The whole state (R21). -/
structure State where
  /-- the reset input (R193); model's own (log 5) -/
  resetIn : Bool
  /-- resets taken, the draw counter of R71; model's own (log 4) -/
  epoch : Nat
  /-- accesses arrived and not yet performed (R73); model's own (log 2) -/
  bus : List BusAccess
  /-- the bus responses most recently given, in order (R66, R73); model's own (log 13) -/
  reply : List BusReply
  /-- IDLE (`none`) or BUSY with what R53 latches -/
  seq : Option Latched
  /-- CMD (R31) -/
  cmd : Word
  /-- ARG0 (R23) -/
  arg0 : Word
  /-- ARG1 (R23) -/
  arg1 : Word
  /-- RESULT (R25) -/
  result : Word
  /-- STATUS.DONE (R30) -/
  done : Bool
  /-- STATUS.ERR (R30) -/
  err : Bool
  /-- IRQ_EN bits 1:0 (R32) -/
  irqEn : BitVec 2
  /-- ERR_CAUSE (R33) -/
  errCause : Cause
  /-- ERR_CMD (R34) -/
  errCmd : Word
  /-- OSC_* (R36 to R40) -/
  osc : Oscillator
  /-- DLY_BASE (R41) -/
  dlyBase : Word
  /-- DLY_LEN (R42) -/
  dlyLen : Word
  /-- MOD_*, DIST_SEL, ENV_OUT, GATE_* (R43 to R47) -/
  mod : ModuleRegs
  /-- CTL0 to CTL7 (R48) -/
  ctl : Bank F32
  /-- PRM_* (R49) -/
  prm : Params
  /-- the collaborator states, absent until MOD_PREPARE (R50, R51, R195); present exactly when PREPARED (R52, log 7) -/
  collab : Option Collaborators
  /-- IN, OUT, TW, CBUF and DLY (R60) -/
  mem : Memory
deriving DecidableEq, Repr

/-- The machine right after reset: the values of R26's table and of R194, R195, R196 and R197. -/
def State.reset : State :=
  { resetIn := false
    epoch := 0
    bus := []
    reply := []
    seq := none
    cmd := 0#32
    arg0 := 0#32
    arg1 := 0#32
    result := 0#32
    done := false
    err := false
    irqEn := 0#2
    errCause := .none
    errCmd := 0#32
    osc := { shape := .sine, sampleRate := 0#32, phase := 0#32, increment := 0#32, pulseWidth := 0#32 }
    dlyBase := 0#32
    dlyLen := 0#32
    mod :=
      { sampleRate := 0#32, blockSize := 0#32, blockRate := 0#32, sel0 := 0#8, sel1 := 0#8, envOut := 0#32,
        gateIn := 0#2, gateOut := 2#2 }
    ctl :=
      { texture := 0#32, morphKnob := 0#32, morphCv := 0#32, amp := 0#32, compressor := 0#32, sideChain := 0#32,
        attack := 0#32, release := 0#32 }
    prm :=
      { texture := 0#32, morph := 0#32, amp := 0#32, compressor := 0#32, sideChain := 0#32, attack := 0#32,
        release := 0#32 }
    collab := none
    mem := [] }

end Sys2Proof.Machine
end

