-- ==== Sys2Proof/Machine/Ops.lean ====
section
/-! DEFINITION. The operations every meaning shares: memory and its byte order, the named updates of State, accepting a
command, completing it (R168), recording a fault (R172) and returning from one (R181), and taking a reset (R193). -/

namespace Sys2Proof.Machine

open Sys2Proof

/-! ### Memory -/

/-- What an address with no entry holds in the list: no value. The machine then reads the free value of R71
(`State.readByte`; log 4). No entry equals it, since every entry is a byte. -/
def Memory.unlisted : Option Byte := none

/-- The byte listed at an offset. -/
def Memory.lookup : Memory → Nat → Option Byte
  | [], _ => Memory.unlisted
  | (x, b) :: rest, a => if x = a then some b else Memory.lookup rest a

/-- The byte at an offset written; entries stay in rising order. -/
def Memory.store : Memory → Nat → Byte → Memory
  | [], a, b => [(a, b)]
  | (x, y) :: rest, a, b =>
    if a < x then (a, b) :: (x, y) :: rest
    else if x = a then (a, b) :: rest
    else (x, y) :: Memory.store rest a b

/-- The canonical form: offsets strictly rising (and, by its type, no entry equal to `Memory.unlisted`). -/
def Memory.wf : Memory → Bool
  | [] => true
  | [_] => true
  | (a, _) :: (b, y) :: rest => decide (a < b) && Memory.wf ((b, y) :: rest)

/-- The word with the given bytes, the first at the lowest offset (little-endian, R58). -/
def wordOfBytes (b0 b1 b2 b3 : Byte) : Word := b3 ++ b2 ++ b1 ++ b0

/-- Byte lane `n` of a word (R58). -/
def byteLane (v : Word) (n : Nat) : Byte := v.extractLsb' (8 * n) 8

/-- A word written, byte lane 0 at the lowest offset (R58). -/
def Memory.storeWord (m : Memory) (a : Nat) (v : Word) : Memory :=
  Memory.store (Memory.store (Memory.store (Memory.store m a (byteLane v 0)) (a + 1) (byteLane v 1)) (a + 2)
    (byteLane v 2)) (a + 3) (byteLane v 3)

/-- One byte of the window's storage: the byte written since reset, else the value the reset left there (R71). -/
def State.readByte (s : State) (a : Nat) : Byte :=
  (Memory.lookup s.mem a).getD (Config.powerOnByte s.epoch a)

/-- `MemRead(a, 4)` (R18). -/
def State.readWord (s : State) (a : Nat) : Word :=
  wordOfBytes (s.readByte a) (s.readByte (a + 1)) (s.readByte (a + 2)) (s.readByte (a + 3))

/-- `MemWrite(a, 4, v)` (R18). -/
def State.writeWord (s : State) (a : Nat) (v : Word) : State :=
  { s with mem := Memory.storeWord s.mem a v }

/-! ### Counted loops -/

/-- The pseudocode's `for i in 0 .. n-1`, in rising order. -/
def loop {α : Type} (n : Nat) (body : α → Nat → α) (start : α) : α :=
  (List.range n).foldl body start

/-! ### Named updates -/

/-- The oscillator registers written. -/
def State.setOsc (s : State) (o : Oscillator) : State := { s with osc := o }
/-- RESULT written (R25). -/
def State.setResult (s : State) (v : Word) : State := { s with result := v }
/-- The module registers written. -/
def State.setMod (s : State) (m : ModuleRegs) : State := { s with mod := m }
/-- The snapshot registers written (R49). -/
def State.setPrm (s : State) (p : Params) : State := { s with prm := p }
/-- The collaborator states written (R50, R51). -/
def State.setCollab (s : State) (c : Collaborators) : State := { s with collab := some c }
/-- The waiting accesses replaced. -/
def State.setBus (s : State) (q : List BusAccess) : State := { s with bus := q }
/-- Bus responses given. -/
def State.setReply (s : State) (rs : List BusReply) : State := { s with reply := rs }

/-! ### Commands: acceptance, completion, faults -/

/-- BUSY (R24, R30). -/
def State.busy (s : State) : Bool := s.seq.isSome

/-- PREPARED (R52): the collaborator states exist (R195). -/
def State.prepared (s : State) : Bool := s.collab.isSome

/-- What the command in progress reads as its word, ARG0 and ARG1: the latched values (R53). With no command in progress,
the values a command accepted now would latch (log 15). -/
def State.operands (s : State) : Latched :=
  s.seq.getD { word := s.cmd, arg0 := s.arg0, arg1 := s.arg1 }

/-- A word accepted: CMD holds it, the sequencer is BUSY with the operands latched (R24, R31, R53). -/
def State.accept (s : State) (w : Word) : State :=
  { s with cmd := w, seq := some { word := w, arg0 := s.arg0, arg1 := s.arg1 } }

/-- A host write of a word to CMD: accepted, or discarded while ERR is 1 (R31, R174). -/
def State.issue (s : State) (w : Word) : State :=
  if s.err then s else s.accept w

/-- Completion (R168): DONE is set and the sequencer is IDLE. -/
def State.complete (s : State) : State :=
  { s with done := true, seq := none }

/-- Fault recording (R172): the cause, the faulting word, ERR, and the sequencer IDLE. "Nothing else changes." -/
def State.raiseFault (s : State) (c : Cause) : State :=
  { s with errCause := c, errCmd := s.operands.word, err := true, seq := none }

/-- A host write to STATUS: 1 clears DONE (bit 1) or ERR (bit 2), 0 and every other bit have no effect (R30). -/
def State.writeStatus (s : State) (v : Word) : State :=
  { s with done := s.done && !v.getLsbD 1, err := s.err && !v.getLsbD 2 }

/-- Return from a fault: the host writes 0x00000004 to STATUS (R181). -/
def State.returnFromFault (s : State) : State := s.writeStatus 0x00000004#32

/-- The platform's reset taken (R193, R194, R196): every register at its reset value, memory drawn anew, nothing in progress
and nothing waiting (log 5). -/
def State.takeReset (s : State) : State :=
  { State.reset with epoch := s.epoch + 1 }

/-- A command that finishes stage 5 of R86 in state `s`. -/
def finish (s : State) : Host.Outcome State Fault Refusal := .next s.complete

/-- `raise Fault(c)`: the command ends in its check stage with fault recording only (R19, R172). -/
def trap (s : State) (c : Cause) : Host.Outcome State Fault Refusal := .next (s.raiseFault c)

end Sys2Proof.Machine
end

