-- ==== Sys2Proof/Machine/Operands.lean ====
section
/-! DEFINITION. The operand forms: ARG0 and ARG1 (R23, R85), the arrays of R18 with the element addresses of R60, and the
records indexed by control input and snapshot field (R48, R49). -/

namespace Sys2Proof.Machine

open Sys2Proof

/-- `asf32(x[ARG0])` (R85). -/
def State.arg0F32 (s : State) : F32 := s.operands.arg0
/-- ARG0 as a u32 (R85). -/
def State.arg0Nat (s : State) : Nat := s.operands.arg0.toNat
/-- `asf32(x[ARG1])` (R85). -/
def State.arg1F32 (s : State) : F32 := s.operands.arg1
/-- ARG1 as a u32 (R85). -/
def State.arg1Nat (s : State) : Nat := s.operands.arg1.toNat

/-- A channel: 0 left, 1 right (R61, R135). -/
inductive Channel where
  | left
  | right
deriving DecidableEq, Repr

/-- The channel's index. -/
def Channel.index : Channel → Nat
  | .left => 0
  | .right => 1

/-- Offset of `IN[c][i]` (R60). -/
def inAddr (c : Channel) (i : Nat) : Nat := 0x01000 + 0x1000 * c.index + 4 * i
/-- Offset of `OUT[c][i]` (R60). -/
def outAddr (c : Channel) (i : Nat) : Nat := 0x03000 + 0x1000 * c.index + 4 * i
/-- Offset of `TW[k]` (R60). -/
def twAddr (k : Nat) : Nat := 0x08000 + 8 * k
/-- Offset of `CBUF[i]` (R60). -/
def cbufAddr (i : Nat) : Nat := 0x10000 + 8 * i
/-- Offset of `DLY[j]` (R60). -/
def dlyAddr (j : Nat) : Nat := 0x20000 + 4 * j

/-- A complex element at an offset: `re` at the lower address (R59). -/
def State.readComplex (s : State) (a : Nat) : Complex32 :=
  { re := s.readWord a, im := s.readWord (a + 4) }

/-- A complex element written at an offset (R59). -/
def State.writeComplex (s : State) (a : Nat) (z : Complex32) : State :=
  { s with mem := Memory.storeWord (Memory.storeWord s.mem a z.re) (a + 4) z.im }

/-- `bits(DLY[base + n mod len])`, the tap `buf(n mod len)` of R113. -/
def State.tap (s : State) (n : Nat) : F32 :=
  s.readWord (dlyAddr (s.dlyBase.toNat + n % s.dlyLen.toNat))

/-- The value of one control input. -/
def Bank.get {α : Type} (b : Bank α) : Ctl → α
  | .texture => b.texture
  | .morphKnob => b.morphKnob
  | .morphCv => b.morphCv
  | .amp => b.amp
  | .compressor => b.compressor
  | .sideChain => b.sideChain
  | .attack => b.attack
  | .release => b.release

/-- The value of one control input replaced. -/
def Bank.set {α : Type} (b : Bank α) (c : Ctl) (v : α) : Bank α :=
  match c with
  | .texture => { b with texture := v }
  | .morphKnob => { b with morphKnob := v }
  | .morphCv => { b with morphCv := v }
  | .amp => { b with amp := v }
  | .compressor => { b with compressor := v }
  | .sideChain => { b with sideChain := v }
  | .attack => { b with attack := v }
  | .release => { b with release := v }

/-- The bank that holds `f c` for each control input `c`. -/
def Bank.build {α : Type} (f : Ctl → α) : Bank α :=
  { texture := f .texture, morphKnob := f .morphKnob, morphCv := f .morphCv, amp := f .amp,
    compressor := f .compressor, sideChain := f .sideChain, attack := f .attack, release := f .release }

/-- The value of one snapshot field. -/
def Params.get (p : Params) : Prm → F32
  | .texture => p.texture
  | .morph => p.morph
  | .amp => p.amp
  | .compressor => p.compressor
  | .sideChain => p.sideChain
  | .attack => p.attack
  | .release => p.release

end Sys2Proof.Machine
end

