-- ==== Sys2Proof/Machine/Sine.lean ====
section
/-! DEFINITION. The correctly rounded sine of R101 and the twiddle values of R124. An argument is a number of turns in units
of 2^-149. The sine of a quarter-turn argument is enclosed between two rationals, from the bounds of pi and the alternating
Taylor series; where both ends round to one binary32 value, that value is the correctly rounded sine (log 8). -/

namespace Sys2Proof.Machine

open Sys2Proof

/-- One turn in units of 2^-149. -/
def turn : Nat := 2 ^ 149
/-- Half a turn. -/
def halfTurn : Nat := 2 ^ 148
/-- A quarter turn. -/
def quarterTurn : Nat := 2 ^ 147
/-- An eighth of a turn. -/
def eighthTurn : Nat := 2 ^ 146

/-- pi lies strictly between `piLow / piDen` and `(piLow + 1) / piDen`. -/
def piLow : Nat := 314159265358979323846
/-- The denominator of the bounds of pi. -/
def piDen : Nat := 10 ^ 20

/-- The denominator of an angle: `2 pi q / 2^149` lies between `2 q piLow / angleDen` and `2 q (piLow + 1) / angleDen`. -/
def angleDen : Nat := turn * piDen

/-- `1 - x²/d · r` for `x² = a2 / b2`, as numerator and denominator. -/
def seriesStep (a2 b2 d : Nat) (r : Nat × Nat) : Nat × Nat :=
  (b2 * d * r.2 - a2 * r.1, b2 * d * r.2)

/-- `1 - x²/(c(c+1)) (1 - x²/((c+2)(c+3)) (…))` with `n` nested factors, for `x² = a2 / b2`. -/
def nestedSeries (a2 b2 : Nat) : (n : Nat) → (c : Nat) → Nat × Nat
  | 0, _ => (1, 1)
  | n + 1, c => seriesStep a2 b2 (c * (c + 1)) (nestedSeries a2 b2 n (c + 2))

/-- The Taylor polynomial of the sine at `a / angleDen` with `n + 1` terms, as numerator and denominator. -/
def sinSeries (a n : Nat) : Nat × Nat :=
  (a * (nestedSeries (a * a) (angleDen * angleDen) n 2).1,
    angleDen * (nestedSeries (a * a) (angleDen * angleDen) n 2).2)

/-- The Taylor polynomial of the cosine at `a / angleDen` with `n + 1` terms, as numerator and denominator. -/
def cosSeries (a n : Nat) : Nat × Nat := nestedSeries (a * a) (angleDen * angleDen) n 1

/-- A rational below `sin(2 pi q / 2^149)`, for `q` in a quarter turn. Beyond an eighth of a turn it is the cosine of the
complement, which falls as its argument grows. -/
def sinLow (q : Nat) : Nat × Nat :=
  if q ≤ eighthTurn then sinSeries (2 * q * piLow) 9 else cosSeries (2 * (quarterTurn - q) * (piLow + 1)) 9

/-- A rational above `sin(2 pi q / 2^149)`, for `q` in a quarter turn. -/
def sinHigh (q : Nat) : Nat × Nat :=
  if q ≤ eighthTurn then sinSeries (2 * q * (piLow + 1)) 10 else cosSeries (2 * (quarterTurn - q) * piLow) 10

/-- Bits 30:0 of the binary32 value nearest to a rational. -/
def roundRatio (r : Nat × Nat) : Nat := roundMag (r.1 * 2 ^ 149) r.2

/-- Both ends of the enclosure round to one value. -/
def sineDecided (q : Nat) : Bool := decide (roundRatio (sinLow q) = roundRatio (sinHigh q))

/-- The argument folded into a quarter turn by the symmetries of the sine. -/
def foldTurn (m : Nat) : Nat :=
  if m % halfTurn ≤ quarterTurn then m % halfTurn else halfTurn - m % halfTurn

/-- The sine is negative on the second half of the turn. -/
def sineNegative (m : Nat) : Bool := decide (halfTurn ≤ m % turn)

/-- `sin(2 pi m / 2^149)` correctly rounded; an exact zero is +0 (R16, R101, R124). -/
def sinTurn (m : Nat) : F32 :=
  if foldTurn m = 0 then fZero
  else if foldTurn m = quarterTurn then (if sineNegative m then fMinusOne else fOne)
  else if sineDecided (foldTurn m) then fPack (sineNegative m) (roundRatio (sinLow (foldTurn m)))
  else Config.undecidedSine m

/-- A finite phase as a number of units of 2^-149 turn, brought into non-negative numbers by a whole number of turns. -/
def phaseTurn (p : F32) : Nat :=
  if fSign p then turn - fUnits p % turn else fUnits p

/-- `SIN2PI(p)` (R101). -/
def sin2pi (p : F32) : F32 :=
  if fIsNaN p || fIsInf p then canonicalNaN
  else if fMag p = 0 then p
  else sinTurn (phaseTurn p)

/-- `2 pi k / 2^order` as a number of turn units. -/
def twiddleTurn (k order : Nat) : Nat := k * 2 ^ (149 - order)

/-- `TWIDDLE_FWD(k, 2^order)`: (cos, -sin), a zero sine giving -0 (R124). -/
def twiddleForward (k order : Nat) : Complex32 :=
  { re := sinTurn (twiddleTurn k order + quarterTurn)
    im := fneg (sinTurn (twiddleTurn k order)) }

/-- `TWIDDLE_INV(k, 2^order)`: the forward entry with the sign of `im` inverted (R124, R126). -/
def twiddleInverse (k order : Nat) : Complex32 :=
  { re := (twiddleForward k order).re
    im := fneg (twiddleForward k order).im }

end Sys2Proof.Machine
end

