-- ==== Sys2Proof/Machine/Fft.lean ====
section
/-! DEFINITION. The FFT commands over TW and CBUF (R123 to R134). -/

namespace Sys2Proof.Machine

open Sys2Proof

/-- The size check of R90 (b), then the command's work. -/
def fftCommand (log2n : Nat) (s : State) (work : State → State) : Host.Outcome State Fault Refusal :=
  if log2n ≤ Config.log2Nmax then finish (work s) else trap s .badFftSize

/-- `TWIDDLE_FWD` or `TWIDDLE_INV` by the INV flag (R84, R125). -/
def twiddle (inv : Bool) (k order : Nat) : Complex32 :=
  if inv then twiddleInverse k order else twiddleForward k order

/-- The loop of R125: `TW[0 .. N/2-1]`. -/
def State.twgen (s : State) (order : Nat) (inv : Bool) : State :=
  loop (2 ^ order / 2) (fun s k => s.writeComplex (twAddr k) (twiddle inv k order)) s

/-- FFT_TWGEN (R125). -/
def execFftTwgen (log2n : Nat) (inv : Bool) (s : State) : Host.Outcome State Fault Refusal :=
  fftCommand log2n s (fun s => s.twgen log2n inv)

/-- `a - m`, componentwise (R127). -/
def csub (a m : Complex32) : Complex32 := { re := fsub a.re m.re, im := fsub a.im m.im }
/-- `a + m`, componentwise (R127). -/
def cadd (a m : Complex32) : Complex32 := { re := fadd a.re m.re, im := fadd a.im m.im }

/-- The product `m` of one butterfly (R127, R20). -/
def State.twiddled (s : State) (tw i2 : Nat) : Complex32 :=
  cmul (s.readComplex (twAddr tw)) (s.readComplex (cbufAddr i2))

/-- One butterfly of R127: `CBUF[i2]`, then `CBUF[i1]`, both from the values before. -/
def State.butterfly (s : State) (tw i1 i2 : Nat) : State :=
  (s.writeComplex (cbufAddr i2) (csub (s.readComplex (cbufAddr i1)) (s.twiddled tw i2))).writeComplex (cbufAddr i1)
    (cadd (s.readComplex (cbufAddr i1)) (s.twiddled tw i2))

/-- One block of a stage: the pairs from block start `k` (R127). -/
def State.fftBlock (s : State) (order stage k : Nat) : State :=
  loop (2 ^ stage) (fun s pair => s.butterfly (pair * 2 ^ (order - stage - 1)) (k + pair) (k + pair + 2 ^ stage)) s

/-- One stage: block starts `0, stride, …, N - stride` (R127). -/
def State.fftStage (s : State) (order stage : Nat) : State :=
  loop (2 ^ order / 2 ^ (stage + 1)) (fun s j => s.fftBlock order stage (j * 2 ^ (stage + 1))) s

/-- The stages `0 .. order-1` of R127. -/
def State.radix2 (s : State) (order : Nat) : State :=
  loop order (fun s stage => s.fftStage order stage) s

/-- FFT_RADIX2 (R127). -/
def execFftRadix2 (log2n : Nat) (s : State) : Host.Outcome State Fault Refusal :=
  fftCommand log2n s (fun s => s.radix2 log2n)

/-- `rev_order(i)`: bits `order-1..0` of `i` in reverse order (R129). -/
def revBits : (order : Nat) → (i : Nat) → Nat
  | 0, _ => 0
  | n + 1, i => i % 2 * 2 ^ n + revBits n (i / 2)

/-- `swap CBUF[i], CBUF[j]`, bit-exact (R129). -/
def State.swapCbuf (s : State) (i j : Nat) : State :=
  (s.writeComplex (cbufAddr i) (s.readComplex (cbufAddr j))).writeComplex (cbufAddr j) (s.readComplex (cbufAddr i))

/-- The loop of R129. -/
def State.bitrev (s : State) (order : Nat) : State :=
  loop (2 ^ order) (fun s i => if i < revBits order i then s.swapCbuf i (revBits order i) else s) s

/-- FFT_BITREV (R129). -/
def execFftBitrev (log2n : Nat) (s : State) : Host.Outcome State Fault Refusal :=
  fftCommand log2n s (fun s => s.bitrev log2n)

end Sys2Proof.Machine
end

