-- ==== Sys2Proof/Machine/Interpolation.lean ====
section
/-! DEFINITION. The interpolation commands over the delay-line window (R113 to R122). -/

namespace Sys2Proof.Machine

open Sys2Proof

/-- The window check of R113: a nonzero length, and an exact sum that does not exceed DLY_SIZE. -/
def State.windowFits (s : State) : Bool :=
  decide (s.dlyLen.toNat ≠ 0) && decide (s.dlyBase.toNat + s.dlyLen.toNat ≤ Config.dlySize)

/-- The linear kernel of R117. -/
def linear2 (x0 x1 frac : F32) : F32 := fadd x0 (fmul frac (fsub x1 x0))

/-- `c` of R118. -/
def hermiteC (xm1 x1 : F32) : F32 := fmul (fsub x1 xm1) fHalf
/-- `w` of R118. -/
def hermiteW (xm1 x0 x1 : F32) : F32 := fadd (hermiteC xm1 x1) (fsub x0 x1)
/-- `a` of R118. -/
def hermiteA (xm1 x0 x1 x2 : F32) : F32 :=
  fadd (fadd (hermiteW xm1 x0 x1) (fsub x0 x1)) (fmul (fsub x2 x0) fHalf)
/-- `bneg` of R118. -/
def hermiteB (xm1 x0 x1 x2 : F32) : F32 := fadd (hermiteW xm1 x0 x1) (hermiteA xm1 x0 x1 x2)

/-- `HERMITE4(xm1, x0, x1, x2, t)` (R118). -/
def hermite4 (xm1 x0 x1 x2 t : F32) : F32 :=
  fadd
    (fmul (fadd (fmul (fsub (fmul (hermiteA xm1 x0 x1 x2) t) (hermiteB xm1 x0 x1 x2)) t) (hermiteC xm1 x1)) t) x0

/-- An interpolation command: the window check, then RESULT (R113, R121). -/
def interpolate (s : State) (v : F32) : Host.Outcome State Fault Refusal :=
  if s.windowFits then finish (s.setResult v) else trap s .dlyWindow

/-- INTERP_NONE (R116). -/
def execInterpNone (s : State) : Host.Outcome State Fault Refusal :=
  interpolate s (s.tap s.arg0Nat)

/-- INTERP_LINEAR (R117). -/
def execInterpLinear (s : State) : Host.Outcome State Fault Refusal :=
  interpolate s (linear2 (s.tap s.arg0Nat) (s.tap (s.arg0Nat + 1)) s.arg1F32)

/-- The value of INTERP_HERMITE, with the position shifted by the length: `q` is `pos + len` (R119). -/
def State.hermiteAt (s : State) (q : Nat) : F32 :=
  hermite4 (s.tap (q - 1)) (s.tap q) (s.tap (q + 1)) (s.tap (q + 2)) s.arg1F32

/-- INTERP_HERMITE (R119). -/
def execInterpHermite (s : State) : Host.Outcome State Fault Refusal :=
  interpolate s (s.hermiteAt (s.arg0Nat + s.dlyLen.toNat))

end Sys2Proof.Machine
end

