-- ==== Sys2Proof/Machine/Strip.lean ====
section
/-! DEFINITION. The channel strip: block-rate parameters and the per-sample pipeline (R135 to R152). The collaborators are
the opaque functions of Config (R136). -/

namespace Sys2Proof.Machine

open Sys2Proof

/-- `drive(P.amp)` (R141). -/
def driveGain (amp : F32) : F32 :=
  fadd Config.driveMin (fmul amp (fsub Config.driveMax Config.driveMin))

/-- The collaborator states of one channel after MOD_PREPARE at a sample rate (R154). -/
def prepareStrip (sr : F32) : Strip :=
  { ef := Config.efPrepare sr
    comp := Config.compPrepare sr
    dn := Config.dnPrepare sr
    sh := (List.range Config.numDist).map (fun k => Config.shaperPrepare k sr) }

/-- `ApplyParams(c, P)` on the channel's states (R144); the drive is `driveGain P.amp`. -/
def applyParams (p : Params) (c : Strip) : Strip :=
  { c with
    ef := Config.efSet c.ef (Config.remapAttack p.attack) (Config.remapRelease p.release)
    comp :=
      Config.compSet c.comp (Config.remapThresh p.compressor) (Config.remapRatio p.compressor) Config.kneeDb
        p.sideChain }

/-- The de-rez amount from the envelope and the texture (R146). -/
def derezAmount (e texture : F32) : F32 :=
  fclamp (fadd (fclamp e fZero fOne) texture) fZero fOne

/-- The state of algorithm `k`. A strip that lists none for it (no reachable strip) has it prepared (log 10). -/
def shaperAt (c : Strip) (k : Nat) (sr : F32) : ShaperState :=
  c.sh.getD k (Config.shaperPrepare k sr)

/-- `s1`, the sample after the noise/dither stage, with the stage's next state (R145 step 2). -/
def ditherStep (p : Params) (c : Strip) (x : F32) : DnState × F32 :=
  Config.dnStep c.dn x (derezAmount (Config.efStep c.ef x).2 p.texture) p.morph

/-- `s4`, the driven and shaped sample, with the selected algorithm's next state (R145 step 3). -/
def shaperOut (p : Params) (k : Nat) (sr : F32) (c : Strip) (x : F32) : ShaperState × F32 :=
  Config.shaperStep k (shaperAt c k sr) (fmul (ditherStep p c x).2 (driveGain p.amp))

/-- `y`, the channel's final sample, with the compressor's next state; the key is the sample itself (R145 step 4, R149). -/
def compressorOut (p : Params) (k : Nat) (sr : F32) (c : Strip) (x : F32) : CompState × F32 :=
  Config.compStep c.comp (shaperOut p k sr c x).2 (shaperOut p k sr c x).2

/-- The channel's states after `ChannelStep(c, x)`; only the selected algorithm steps (R142, R145). -/
def channelNext (p : Params) (k : Nat) (sr : F32) (c : Strip) (x : F32) : Strip :=
  { ef := (Config.efStep c.ef x).1
    comp := (compressorOut p k sr c x).1
    dn := (ditherStep p c x).1
    sh := c.sh.set k (shaperOut p k sr c x).1 }

/-- The sample `y` that `ChannelStep(c, x)` returns (R145, R149). -/
def channelSample (p : Params) (k : Nat) (sr : F32) (c : Strip) (x : F32) : F32 :=
  (compressorOut p k sr c x).2

/-- The envelope `e` that `ChannelStep(c, x)` returns: the follower's unclamped output (R145, R150). -/
def channelEnvelope (c : Strip) (x : F32) : F32 := (Config.efStep c.ef x).2

end Sys2Proof.Machine
end

