-- ==== Sys2Proof/Machine/Module.lean ====
section
/-! DEFINITION. The module commands: prepare, process a block, advance the distortion selectors (R153 to R166). -/

namespace Sys2Proof.Machine

open Sys2Proof

/-- The collaborator states MOD_PREPARE leaves (R154): the smoothers at the block rate, the strips at the sample rate. -/
def prepareAll (sr brate : F32) : Collaborators :=
  { smooth := Bank.build (fun _ => Config.smoothPrepare brate)
    strip0 := prepareStrip sr
    strip1 := prepareStrip sr }

/-- `blockRate = fdiv(sr, RNE32(bs))` (R154). -/
def blockRateOf (sr : F32) (bs : Nat) : F32 := fdiv sr (fOfNat bs)

/-- Stage 5 of MOD_PREPARE (R154). -/
def State.prepare (s : State) : State :=
  (s.setMod
      { s.mod with
        sampleRate := s.arg0F32
        blockSize := s.operands.arg1
        blockRate := blockRateOf s.arg0F32 s.arg1Nat }).setCollab
    (prepareAll s.arg0F32 (blockRateOf s.arg0F32 s.arg1Nat))

/-- MOD_PREPARE (R154): the ALREADY_PREPARED check comes first. -/
def execModPrepare (s : State) : Host.Outcome State Fault Refusal :=
  if s.prepared then trap s .alreadyPrepared
  else if s.arg1Nat = 0 ∨ Config.blockMax < s.arg1Nat then trap s .badBlockSize
  else finish s.prepare

/-- `Capture()`: each control input clamped to [0, 1]; a NaN passes (R157). -/
def captureControls (ctl : Bank F32) : Bank F32 :=
  Bank.build (fun c => fclamp (ctl.get c) fZero fOne)

/-- The smoother states after one step each (R158). -/
def smoothNext (sm : Bank SmoothState) (u : Bank F32) : Bank SmoothState :=
  Bank.build (fun c => (Config.smoothStep (sm.get c) (u.get c)).1)

/-- The smoothed values `v[0..7]` (R158). -/
def smoothed (sm : Bank SmoothState) (u : Bank F32) : Bank F32 :=
  Bank.build (fun c => (Config.smoothStep (sm.get c) (u.get c)).2)

/-- The snapshot P assembled from the smoothed values (R158). -/
def assembleParams (v : Bank F32) : Params :=
  { texture := v.texture
    morph := fclamp (fadd v.morphKnob v.morphCv) fZero fOne
    amp := v.amp
    compressor := v.compressor
    sideChain := v.sideChain
    attack := v.attack
    release := v.release }

/-- `Gates(g1, g2)`: bit 0 is the exclusive or, bit 1 its complement (R162). -/
def gatesOf (gateIn : BitVec 2) : BitVec 2 :=
  BitVec.ofBool (!(gateIn.getLsbD 0 ^^ gateIn.getLsbD 1)) ++ BitVec.ofBool (gateIn.getLsbD 0 ^^ gateIn.getLsbD 1)

/-- ENV_COMBINE (R161). -/
def combineEnvelopes (how : EnvCombine) (e0 e1 : F32) : F32 :=
  match how with
  | .left => e0
  | .right => e1
  | .max => if flt e0 e1 then e1 else e0

/-- What the sample loop carries: the core's state, the two strips, and the envelopes of the last sample (R160, R161). -/
structure Block where
  st : State
  strip0 : Strip
  strip1 : Strip
  env : Option (F32 × F32)
deriving DecidableEq, Repr

/-- One iteration of the sample loop at index `i`: channel 0, then channel 1 (R156, R160). -/
def blockSample (p : Params) (b : Block) (i : Nat) : Block :=
  let x0 := b.st.readWord (inAddr .left i)
  let st0 := b.st.writeWord (outAddr .left i)
    (channelSample p b.st.mod.sel0.toNat b.st.mod.sampleRate b.strip0 x0)
  let x1 := st0.readWord (inAddr .right i)
  { st := st0.writeWord (outAddr .right i)
      (channelSample p st0.mod.sel1.toNat st0.mod.sampleRate b.strip1 x1)
    strip0 := channelNext p b.st.mod.sel0.toNat b.st.mod.sampleRate b.strip0 x0
    strip1 := channelNext p st0.mod.sel1.toNat st0.mod.sampleRate b.strip1 x1
    env := some (channelEnvelope b.strip0 x0, channelEnvelope b.strip1 x1) }

/-- The sample loop over `0 .. bs-1` (R160). -/
def blockLoop (p : Params) (bs : Nat) (b : Block) : Block := loop bs (blockSample p) b

/-- The module registers after a block: ENV_OUT from the last sample's envelopes, GATE_OUT from the captured gates (R156,
R161, R162). A block of no samples (no reachable block) leaves ENV_OUT as it was (log 10). -/
def blockRegs (m : ModuleRegs) (env : Option (F32 × F32)) : ModuleRegs :=
  { m with
    envOut := match env with
      | some (e0, e1) => combineEnvelopes Config.envCombine e0 e1
      | none => m.envOut
    gateOut := gatesOf m.gateIn }

/-- The snapshot of the next block (R158). -/
def State.snapshot (s : State) (c : Collaborators) : Params :=
  assembleParams (smoothed c.smooth (captureControls s.ctl))

/-- The block before its first sample: the snapshot registers written and applied to both channels (R158, R159). -/
def State.openBlock (s : State) (c : Collaborators) : Block :=
  { st := s.setPrm (s.snapshot c)
    strip0 := applyParams (s.snapshot c) c.strip0
    strip1 := applyParams (s.snapshot c) c.strip1
    env := none }

/-- The block after its last sample (R156, R160). -/
def State.runBlock (s : State) (c : Collaborators) : Block :=
  blockLoop (s.snapshot c) s.mod.blockSize.toNat (s.openBlock c)

/-- The core's state when the block is done (R156). -/
def State.closeBlock (s : State) (c : Collaborators) : State :=
  ((s.runBlock c).st.setMod (blockRegs (s.runBlock c).st.mod (s.runBlock c).env)).setCollab
    { smooth := smoothNext c.smooth (captureControls s.ctl)
      strip0 := (s.runBlock c).strip0
      strip1 := (s.runBlock c).strip1 }

/-- MOD_PROCESS (R156). -/
def execModProcess (s : State) : Host.Outcome State Fault Refusal :=
  match s.collab with
  | none => trap s .notPrepared
  | some c => finish (s.closeBlock c)

/-- `(sel + 1) mod K` (R152, R164). -/
def nextSelector (sel : BitVec 8) : BitVec 8 := BitVec.ofNat 8 ((sel.toNat + 1) % Config.numDist)

/-- MOD_NEXT_DIST (R164). -/
def execModNextDist (s : State) : Host.Outcome State Fault Refusal :=
  finish (s.setMod { s.mod with sel0 := nextSelector s.mod.sel0, sel1 := nextSelector s.mod.sel1 })

end Sys2Proof.Machine
end

