-- ==== Sys2Proof/Machine/Oscillator.lean ====
section
/-! DEFINITION. The oscillator: waveforms, phase advance, and its seven commands (R97 to R112). -/

namespace Sys2Proof.Machine

open Sys2Proof

/-- A rounded phase of exactly 1.0 becomes +0.0 (R98, 90_conflicts.md C2). -/
def wrapFixup (r : F32) : F32 := if feq r fOne then fZero else r

/-- The phase `AddPhase(o)` leaves, from the phase it finds (R98). -/
def advancePhase (phase o : F32) : F32 :=
  wrapFixup (fsub (fadd phase o) (ffloor (fadd phase o)))

/-- `TRI(p)` (R100). -/
def triangleWave (p : F32) : F32 :=
  fsub (fmul fFour (if fle p fHalf then p else fsub fOne p)) fOne

/-- `PULSE(p, w)` (R102). -/
def pulseWave (p w : F32) : F32 :=
  if flt p (fclamp w fZero fOne) then fMinusOne else fOne

/-- `Wave(shape, p, w)` (R99). -/
def wave (shape : Shape) (p w : F32) : F32 :=
  match shape with
  | .sine => sin2pi p
  | .triangle => triangleWave p
  | .square => pulseWave p w

/-- The waveform a SHAPE field selects; 3 to 15 select none (R83, R90). -/
def shapeOfField : Nat → Option Shape
  | 0 => some .sine
  | 1 => some .triangle
  | 2 => some .square
  | _ => none

/-- OSC_SET_SHAPE (R104). -/
def execOscSetShape (shape : Nat) (s : State) : Host.Outcome State Fault Refusal :=
  match shapeOfField shape with
  | some sh => finish (s.setOsc { s.osc with shape := sh })
  | none => trap s .badShape

/-- OSC_SET_SR (R105): any f32 is stored unchanged and OSC_INC is not recomputed. -/
def execOscSetSr (s : State) : Host.Outcome State Fault Refusal :=
  finish (s.setOsc { s.osc with sampleRate := s.arg0F32 })

/-- OSC_SET_FREQ (R106). -/
def execOscSetFreq (s : State) : Host.Outcome State Fault Refusal :=
  finish (s.setOsc { s.osc with increment := fdiv s.arg0F32 s.osc.sampleRate })

/-- OSC_SET_PHASE (R107): raw, no normalisation. -/
def execOscSetPhase (s : State) : Host.Outcome State Fault Refusal :=
  finish (s.setOsc { s.osc with phase := s.arg0F32 })

/-- OSC_ADD_PHASE (R108). -/
def execOscAddPhase (s : State) : Host.Outcome State Fault Refusal :=
  finish (s.setOsc { s.osc with phase := advancePhase s.osc.phase s.arg0F32 })

/-- OSC_SET_PW (R109): raw; the clamp is applied at evaluation. -/
def execOscSetPw (s : State) : Host.Outcome State Fault Refusal :=
  finish (s.setOsc { s.osc with pulseWidth := s.arg0F32 })

/-- OSC_NEXT (R110): the value at the current phase, then the advance (R103). -/
def execOscNext (s : State) : Host.Outcome State Fault Refusal :=
  finish
    ((s.setOsc { s.osc with phase := advancePhase s.osc.phase s.osc.increment }).setResult
      (wave s.osc.shape s.osc.phase s.osc.pulseWidth))

end Sys2Proof.Machine
end

