-- ==== Sys2Proof/Machine/System.lean ====
section
/-! DEFINITION. The system command (R167). -/

namespace Sys2Proof.Machine

open Sys2Proof

/-- NOP (R167): nothing, apart from completion. -/
def execNop (s : State) : Host.Outcome State Fault Refusal := finish s

end Sys2Proof.Machine
end

