-- ==== Sys2Proof/Syntax.lean ====
section
/-! DEFINITION. The commands of PIF-CORE: one constructor per row of the opcode map (R87). -/

namespace Sys2Proof

/-- A command. A field is the number an assembler line holds (R92); `Instr.wellFormed` says which numbers can be encoded. -/
inductive Instr where
  /-- R167 -/
  | nop
  /-- R104 -/
  | oscSetShape (shape : Nat)
  /-- R105 -/
  | oscSetSr
  /-- R106 -/
  | oscSetFreq
  /-- R107 -/
  | oscSetPhase
  /-- R108 -/
  | oscAddPhase
  /-- R109 -/
  | oscSetPw
  /-- R110 -/
  | oscNext
  /-- R116 -/
  | interpNone
  /-- R117 -/
  | interpLinear
  /-- R119 -/
  | interpHermite
  /-- R125; `inv` is the INV flag (R84) -/
  | fftTwgen (log2n : Nat) (inv : Bool)
  /-- R127 -/
  | fftRadix2 (log2n : Nat)
  /-- R129 -/
  | fftBitrev (log2n : Nat)
  /-- R154 -/
  | modPrepare
  /-- R156 -/
  | modProcess
  /-- R164 -/
  | modNextDist
deriving DecidableEq, Repr

end Sys2Proof
end

