-- ==== Sys2Proof/Machine/Dispatch.lean ====
section
/-! DEFINITION. The dispatch of a decoded command to its meaning: stages 3 to 5 of R86. -/

namespace Sys2Proof.Machine

open Sys2Proof

-- One arm per constructor of Instr, each one direct call of its meaning.
def exec (i : Instr) (s : State) : Host.Outcome State Fault Refusal :=
  match i with
  | .nop => Sys2Proof.Machine.execNop s
  | .oscSetShape shape => Sys2Proof.Machine.execOscSetShape shape s
  | .oscSetSr => Sys2Proof.Machine.execOscSetSr s
  | .oscSetFreq => Sys2Proof.Machine.execOscSetFreq s
  | .oscSetPhase => Sys2Proof.Machine.execOscSetPhase s
  | .oscAddPhase => Sys2Proof.Machine.execOscAddPhase s
  | .oscSetPw => Sys2Proof.Machine.execOscSetPw s
  | .oscNext => Sys2Proof.Machine.execOscNext s
  | .interpNone => Sys2Proof.Machine.execInterpNone s
  | .interpLinear => Sys2Proof.Machine.execInterpLinear s
  | .interpHermite => Sys2Proof.Machine.execInterpHermite s
  | .fftTwgen log2n inv => Sys2Proof.Machine.execFftTwgen log2n inv s
  | .fftRadix2 log2n => Sys2Proof.Machine.execFftRadix2 log2n s
  | .fftBitrev log2n => Sys2Proof.Machine.execFftBitrev log2n s
  | .modPrepare => Sys2Proof.Machine.execModPrepare s
  | .modProcess => Sys2Proof.Machine.execModProcess s
  | .modNextDist => Sys2Proof.Machine.execModNextDist s

end Sys2Proof.Machine
end

