-- ==== Sys2Proof/WellFormed.lean ====
section
/-! DEFINITION. Which commands have an encoding: "n is a decimal integer 0..15, and the assembler rejects a value outside
0..15" (R92). A well-formed command may still fault when its field is checked (R90). -/

namespace Sys2Proof

/-- The field fits the four bits of FA (R81, R83). -/
def fitsFieldA (n : Nat) : Bool := decide (n ≤ 15)

/-- The command can be encoded (R83, R92). -/
def Instr.wellFormed : Instr → Bool
  | .nop => true
  | .oscSetShape shape => fitsFieldA shape
  | .oscSetSr => true
  | .oscSetFreq => true
  | .oscSetPhase => true
  | .oscAddPhase => true
  | .oscSetPw => true
  | .oscNext => true
  | .interpNone => true
  | .interpLinear => true
  | .interpHermite => true
  | .fftTwgen log2n _ => fitsFieldA log2n
  | .fftRadix2 log2n => fitsFieldA log2n
  | .fftBitrev log2n => fitsFieldA log2n
  | .modPrepare => true
  | .modProcess => true
  | .modNextDist => true

end Sys2Proof
end

