-- ==== Sys2Proof/Decode.lean ====
section
/-! DEFINITION. The decoder (stages 1 and 2 of R86), total on every word and rejecting by name; then the encoder, written
from the same encoding tables (R81, R82, R87). -/

namespace Sys2Proof

/-- Why a word decodes to no command. Both are ILLEGAL_CMD to the machine (R171). -/
inductive DecodeError where
  /-- Stage 1: OPC is not in the opcode map (R88). -/
  | reservedOpcode (opc : Nat)
  /-- Stage 2: a field the command's format does not use is nonzero (R89). -/
  | reservedField
deriving DecidableEq, Repr

/-- OPC, bits 7:0 (R81). -/
def fieldOpc (w : Word) : Nat := (w.extractLsb' 0 8).toNat

/-- FA, bits 11:8, as an unsigned integer (R81, R83). -/
def fieldA (w : Word) : Nat := (w.extractLsb' 8 4).toNat

/-- FI, bit 12 (R81, R84). -/
def fieldI (w : Word) : Bool := w.getLsbD 12

/-- RSV, bits 31:13 (R81). -/
def fieldRsv (w : Word) : Nat := (w.extractLsb' 13 19).toNat

/-- Format N: FA, FI and RSV must be zero (R82, R89). -/
def decodeN (w : Word) (i : Instr) : Except DecodeError Instr :=
  if fieldA w = 0 ∧ fieldI w = false ∧ fieldRsv w = 0 then .ok i else .error .reservedField

/-- Formats S and L: FI and RSV must be zero (R82, R89). -/
def decodeA (w : Word) (mk : Nat → Instr) : Except DecodeError Instr :=
  if fieldI w = false ∧ fieldRsv w = 0 then .ok (mk (fieldA w)) else .error .reservedField

/-- Format LI: RSV must be zero (R82, R89). -/
def decodeAI (w : Word) (mk : Nat → Bool → Instr) : Except DecodeError Instr :=
  if fieldRsv w = 0 then .ok (mk (fieldA w) (fieldI w)) else .error .reservedField

/-- Stages 1 and 2 of R86 on an accepted word, by the opcode map of R87. -/
def decode (w : Word) : Except DecodeError Instr :=
  match fieldOpc w with
  | 0x00 => decodeN w .nop
  | 0x10 => decodeA w .oscSetShape
  | 0x11 => decodeN w .oscSetSr
  | 0x12 => decodeN w .oscSetFreq
  | 0x13 => decodeN w .oscSetPhase
  | 0x14 => decodeN w .oscAddPhase
  | 0x15 => decodeN w .oscSetPw
  | 0x16 => decodeN w .oscNext
  | 0x20 => decodeN w .interpNone
  | 0x21 => decodeN w .interpLinear
  | 0x22 => decodeN w .interpHermite
  | 0x30 => decodeAI w .fftTwgen
  | 0x31 => decodeA w .fftRadix2
  | 0x32 => decodeA w .fftBitrev
  | 0x40 => decodeN w .modPrepare
  | 0x41 => decodeN w .modProcess
  | 0x42 => decodeN w .modNextDist
  | opc => .error (.reservedOpcode opc)

/-- The instruction the decoder reads from a table row's bits; a PIF-CORE command is one 32-bit word (R81), so the bits at
and above `nbits` are zero. -/
def decodeTableWord (nbits w : Nat) : Option Instr :=
  match decode (BitVec.ofNat 32 (w % 2 ^ nbits)) with
  | .ok i => some i
  | .error _ => none

/-- A command word from its fields: `RSV` zero, then FI, FA and OPC (R81). -/
def packWord (fi : Bool) (fa : Nat) (opc : Byte) : Word :=
  0#19 ++ BitVec.ofBool fi ++ BitVec.ofNat 4 fa ++ opc

/-- The command's word (R82, R87). For a command that is not well formed the field is cut to four bits and the word means
another command: the assembler emits no word for it (R92). -/
def encode : Instr → Word
  | .nop => packWord false 0 0x00#8
  | .oscSetShape shape => packWord false shape 0x10#8
  | .oscSetSr => packWord false 0 0x11#8
  | .oscSetFreq => packWord false 0 0x12#8
  | .oscSetPhase => packWord false 0 0x13#8
  | .oscAddPhase => packWord false 0 0x14#8
  | .oscSetPw => packWord false 0 0x15#8
  | .oscNext => packWord false 0 0x16#8
  | .interpNone => packWord false 0 0x20#8
  | .interpLinear => packWord false 0 0x21#8
  | .interpHermite => packWord false 0 0x22#8
  | .fftTwgen log2n inv => packWord inv log2n 0x30#8
  | .fftRadix2 log2n => packWord false log2n 0x31#8
  | .fftBitrev log2n => packWord false log2n 0x32#8
  | .modPrepare => packWord false 0 0x40#8
  | .modProcess => packWord false 0 0x41#8
  | .modNextDist => packWord false 0 0x42#8

end Sys2Proof
end

