-- ==== Sys2Proof/Machine/Flags.lean ====
section
/-! DEFINITION. The status bits. PIF-CORE has no condition codes and no arithmetic flags (R54): STATUS and the interrupt
output it drives are all there is. -/

namespace Sys2Proof.Machine

open Sys2Proof

/-- STATUS as the host reads it: BUSY, DONE, ERR, PREPARED in bits 0 to 3, the rest 0 (R30). -/
def State.statusWord (s : State) : Word :=
  0#28 ++ BitVec.ofBool s.prepared ++ BitVec.ofBool s.err ++ BitVec.ofBool s.done ++ BitVec.ofBool s.busy

/-- DONE_IE, IRQ_EN bit 0 (R32). -/
def State.doneIe (s : State) : Bool := s.irqEn.getLsbD 0
/-- ERR_IE, IRQ_EN bit 1 (R32). -/
def State.errIe (s : State) : Bool := s.irqEn.getLsbD 1

/-- The interrupt output: level-sensitive, active high (R178). -/
def State.irq (s : State) : Bool := (s.done && s.doneIe) || (s.err && s.errIe)

end Sys2Proof.Machine
end

