-- ==== Sys2Proof/Machine/Registers.lean ====
section
/-! DEFINITION. The control/status registers: the map of R26, and what a host read or write of each does (R22 to R49). -/

namespace Sys2Proof.Machine

open Sys2Proof

/-- The registers of R26. -/
inductive Reg where
  | id
  | cfg0
  | cfg1
  | status
  | irqEn
  | errCause
  | errCmd
  | cmd
  | arg0
  | arg1
  | result
  | oscShape
  | oscSr
  | oscPhase
  | oscInc
  | oscPw
  | dlyBase
  | dlyLen
  | modSr
  | modBs
  | modBrate
  | distSel
  | envOut
  | gateIn
  | gateOut
  | ctl (c : Ctl)
  | prm (p : Prm)
deriving DecidableEq, Repr

/-- The table of R26, in its order: offset and register. -/
def registerMap : List (Nat × Reg) :=
  [ (0x000, .id), (0x004, .cfg0), (0x008, .cfg1), (0x010, .status), (0x014, .irqEn), (0x018, .errCause),
    (0x01C, .errCmd), (0x020, .cmd), (0x024, .arg0), (0x028, .arg1), (0x02C, .result), (0x040, .oscShape),
    (0x044, .oscSr), (0x048, .oscPhase), (0x04C, .oscInc), (0x050, .oscPw), (0x060, .dlyBase), (0x064, .dlyLen),
    (0x080, .modSr), (0x084, .modBs), (0x088, .modBrate), (0x08C, .distSel), (0x090, .envOut), (0x094, .gateIn),
    (0x098, .gateOut), (0x0A0, .ctl .texture), (0x0A4, .ctl .morphKnob), (0x0A8, .ctl .morphCv), (0x0AC, .ctl .amp),
    (0x0B0, .ctl .compressor), (0x0B4, .ctl .sideChain), (0x0B8, .ctl .attack), (0x0BC, .ctl .release),
    (0x0C0, .prm .texture), (0x0C4, .prm .morph), (0x0C8, .prm .amp), (0x0CC, .prm .compressor),
    (0x0D0, .prm .sideChain), (0x0D4, .prm .attack), (0x0D8, .prm .release) ]

/-- The first register a row of the table lists at an offset. -/
def regIn : List (Nat × Reg) → Nat → Option Reg
  | [], _ => none
  | (o, r) :: rest, off => if o = off then some r else regIn rest off

/-- The register at an offset; `none` where the offset is reserved (R26). -/
def regAt (off : Nat) : Option Reg := regIn registerMap off

/-- ERR_CAUSE[7:0] for each cause (R171). -/
def causeCode : Cause → BitVec 8
  | .none => 0x00#8
  | .illegalCmd => 0x01#8
  | .badShape => 0x02#8
  | .badFftSize => 0x03#8
  | .dlyWindow => 0x04#8
  | .notPrepared => 0x05#8
  | .alreadyPrepared => 0x06#8
  | .badBlockSize => 0x07#8

/-- OSC_SHAPE[1:0] for each shape (R36). -/
def shapeCode : Shape → BitVec 2
  | .sine => 0#2
  | .triangle => 1#2
  | .square => 2#2

/-- CFG0: LOG2_NMAX in bits 3:0, NUM_DIST in 15:8, BLOCK_MAX in 26:16 (R28). -/
def cfg0Word : Word :=
  0#5 ++ BitVec.ofNat 11 Config.blockMax ++ BitVec.ofNat 8 Config.numDist ++ 0#4 ++ BitVec.ofNat 4 Config.log2Nmax

/-- What a host read of a register returns (R22 to R49). No read has a side effect (R70). -/
def State.readReg (s : State) : Reg → Word
  | .id => 0x50494643#32
  | .cfg0 => cfg0Word
  | .cfg1 => BitVec.ofNat 32 Config.dlySize
  | .status => s.statusWord
  | .irqEn => s.irqEn.setWidth 32
  | .errCause => (causeCode s.errCause).setWidth 32
  | .errCmd => s.errCmd
  | .cmd => s.cmd
  | .arg0 => s.arg0
  | .arg1 => s.arg1
  | .result => s.result
  | .oscShape => (shapeCode s.osc.shape).setWidth 32
  | .oscSr => s.osc.sampleRate
  | .oscPhase => s.osc.phase
  | .oscInc => s.osc.increment
  | .oscPw => s.osc.pulseWidth
  | .dlyBase => s.dlyBase
  | .dlyLen => s.dlyLen
  | .modSr => s.mod.sampleRate
  | .modBs => s.mod.blockSize
  | .modBrate => s.mod.blockRate
  | .distSel => (s.mod.sel1 ++ s.mod.sel0).setWidth 32
  | .envOut => s.mod.envOut
  | .gateIn => s.mod.gateIn.setWidth 32
  | .gateOut => s.mod.gateOut.setWidth 32
  | .ctl c => s.ctl.get c
  | .prm p => s.prm.get p

/-- What a host write to a register does: RW registers take their defined bits, STATUS is write-one-to-clear, CMD issues a
command, and a write to an RO register is ignored (R30, R31, R35). -/
def State.writeReg (s : State) (r : Reg) (v : Word) : State :=
  match r with
  | .id => s
  | .cfg0 => s
  | .cfg1 => s
  | .status => s.writeStatus v
  | .irqEn => { s with irqEn := v.extractLsb' 0 2 }
  | .errCause => s
  | .errCmd => s
  | .cmd => s.issue v
  | .arg0 => { s with arg0 := v }
  | .arg1 => { s with arg1 := v }
  | .result => s
  | .oscShape => s
  | .oscSr => s
  | .oscPhase => s
  | .oscInc => s
  | .oscPw => s
  | .dlyBase => { s with dlyBase := v }
  | .dlyLen => { s with dlyLen := v }
  | .modSr => s
  | .modBs => s
  | .modBrate => s
  | .distSel => s
  | .envOut => s
  | .gateIn => { s with mod := { s.mod with gateIn := v.extractLsb' 0 2 } }
  | .gateOut => s
  | .ctl c => { s with ctl := s.ctl.set c v }
  | .prm _ => s

end Sys2Proof.Machine
end

