-- ==== Sys2Proof/Machine/Bus.lean ====
section
/-! DEFINITION. The host bus: the address map, what each access does, and which waiting access is answered (R56 to R74). -/

namespace Sys2Proof.Machine

open Sys2Proof

/-- The size of the window: 256 KiB (R56). -/
def windowSize : Nat := 0x40000

/-- A memory of the address map: its first offset and the bytes of it that are used (R60). -/
structure Region where
  base : Nat
  used : Nat
deriving DecidableEq, Repr

/-- The memories of R60: IN[0], IN[1], OUT[0], OUT[1], TW, CBUF, DLY. Every other offset from 0x100 on, and every slot of a
memory beyond its used count, is reserved (R67). -/
def memoryMap : List Region :=
  [ { base := 0x01000, used := 4 * Config.blockMax }, { base := 0x02000, used := 4 * Config.blockMax },
    { base := 0x03000, used := 4 * Config.blockMax }, { base := 0x04000, used := 4 * Config.blockMax },
    { base := 0x08000, used := 8 * 2 ^ (Config.log2Nmax - 1) }, { base := 0x10000, used := 8 * 2 ^ Config.log2Nmax },
    { base := 0x20000, used := 4 * Config.dlySize } ]

/-- The offset lies in the used part of a memory. -/
def Region.holds (r : Region) (off : Nat) : Bool := decide (r.base ≤ off) && decide (off < r.base + r.used)

/-- The offset names storage (R60, R67). -/
def isStorage (off : Nat) : Bool := memoryMap.any (fun r => r.holds off)

/-- An aligned 32-bit read at an offset of the window (R26, R60, R67). -/
def State.readWindow (s : State) (off : Nat) : Word :=
  if off < 0x100 then
    match regAt off with
    | some r => s.readReg r
    | none => 0#32
  else if isStorage off then s.readWord off
  else 0#32

/-- An aligned 32-bit write at an offset of the window (R26, R60, R67). -/
def State.writeWindow (s : State) (off : Nat) (v : Word) : State :=
  if off < 0x100 then
    match regAt off with
    | some r => s.writeReg r v
    | none => s
  else if isStorage off then s.writeWord off v
  else s

/-- The access is an aligned 32-bit one: the only access the core performs (R66). -/
def BusAccess.aligned (a : BusAccess) : Bool := decide (a.width = .word) && decide (a.offset % 4 = 0)

/-- An aligned access performed: its effect and its response (R57, R70; a write's response data is log 13). -/
def State.serve (s : State) (a : BusAccess) : State :=
  match a.op with
  | .read => s.setReply [{ error := false, data := s.readWindow a.offset }]
  | .write v => (s.writeWindow a.offset v).setReply [{ error := false, data := 0#32 }]

/-- A host access performed in the order of arrival (R66, R73, R74). An access the core does not perform gets an error
response, reads 0 and changes no core state (R66, R183). -/
def State.perform (s : State) (a : BusAccess) : Host.Outcome State Fault Refusal :=
  if windowSize ≤ a.offset then .fault .outsideWindow
  else if a.aligned then .next (s.serve a)
  else .next (s.setReply [{ error := true, data := 0#32 }])

/-- A read of STATUS: the one access that completes while BUSY (R73). -/
def BusAccess.isStatusRead (a : BusAccess) : Bool :=
  decide (a.offset = 0x010) && a.aligned && decide (a.op = .read)

/-- The STATUS reads that wait (R73). -/
def State.polls (s : State) : List BusAccess := s.bus.filter (fun a => a.isStatusRead)

/-- Every waiting STATUS read answered while BUSY, each with STATUS as it stands; the other accesses stay held, in order
(R73). With none waiting nothing changes. -/
def State.answerPolls (s : State) : State :=
  (s.setBus (s.bus.filter (fun a => !a.isStatusRead))).setReply
    (match s.polls with
    | [] => s.reply
    | polls => polls.map (fun _ => { error := false, data := s.statusWord }))

/-- The IDLE core: the access that arrived first is performed; with none, nothing happens (R24, R74, R194). -/
def State.idleStep (s : State) : Host.Outcome State Fault Refusal :=
  match s.bus with
  | [] => .next s
  | a :: rest => (s.setBus rest).perform a

/-- An access arrives at the core (R73; log 2). -/
def State.arrive (s : State) (a : BusAccess) : State := { s with bus := s.bus ++ [a] }

/-- The access a host transfer to a byte address of the host bus makes, if the address is the core's (R56). -/
def accessAt (address : Nat) (width : BusWidth) (op : BusOp) : Option BusAccess :=
  if Config.coreBase ≤ address ∧ address < Config.coreBase + windowSize then
    some { offset := address - Config.coreBase, width := width, op := op }
  else none

end Sys2Proof.Machine
end

