-- ==== Sys2Proof/Machine/Sequencer.lean ====
section
/-! DEFINITION. How the sequencer finds its next command: the word it accepted (R24, R86). -/

namespace Sys2Proof.Machine

open Sys2Proof

/-- The command in progress, decoded: `none` when IDLE (R24). -/
def State.fetched (s : State) : Option (Except DecodeError Instr) :=
  s.seq.map (fun l => decode l.word)

/-- The state in which a word has just been accepted and nothing stands before its execution: the reset input low, CMD holding
the word and the operands latched (R24, R31, R53). -/
def State.acceptNow (s : State) (w : Word) : State := { s.accept w with resetIn := false }

/-- A word that decodes to no command faults (R86, R88, R89). -/
def State.illegalCommand (s : State) : Host.Outcome State Fault Refusal := trap s .illegalCmd

end Sys2Proof.Machine
end

