-- ==== Sys2Proof/Machine/Step.lean ====
section
/-! DEFINITION. One step of the machine. The reset input comes first; a BUSY sequencer answers every waiting STATUS
read and then runs its command to completion or fault; an IDLE one performs the access that arrived first (R73, R74, R193).
"A model may treat every command as taking one step" (R212; log 1). -/

namespace Sys2Proof.Machine

open Sys2Proof

/-- The command in progress runs in one indivisible step (R74, R86). -/
def State.runCommand (s : State) (w : Word) : Host.Outcome State Fault Refusal :=
  match decode w with
  | .ok i => exec i s
  | .error _ => s.illegalCommand

/-- One step. -/
def step (s : State) : Host.Outcome State Fault Refusal :=
  match s.resetIn with
  | true => .next s.takeReset
  | false =>
    match s.seq with
    | none => s.idleStep
    | some l => s.answerPolls.runCommand l.word

/-- The state in which the table row's bits are the word just accepted from CMD, so that the next step runs it (log 2). -/
def State.withFetchWord (s : State) (nbits w : Nat) : State :=
  s.acceptNow (BitVec.ofNat 32 (w % 2 ^ nbits))

end Sys2Proof.Machine
end

