-- ==== Sys2Proof/Safety.lean ====
section
/-! DEFINITION. The terms claims use: the invariant of the machine, piece by piece, and the rational value of a binary32
pattern. -/

namespace Sys2Proof.Machine

open Sys2Proof

/-- Memory is canonical and lists only storage (R60). -/
def State.memoryOk (s : State) : Prop :=
  Memory.wf s.mem = true ∧ ∀ c ∈ s.mem, isStorage c.1 = true

/-- While BUSY the latched values equal CMD, ARG0 and ARG1 (R53), and ERR is 0, since a word is accepted only then (R31). -/
def State.latchOk (s : State) : Prop :=
  ∀ l, s.seq = some l → l = { word := s.cmd, arg0 := s.arg0, arg1 := s.arg1 } ∧ s.err = false

/-- ERR is 1 only after a fault, whose cause ERR_CAUSE holds (R33, R172). -/
def State.errorOk (s : State) : Prop := s.err = true → s.errCause ≠ .none

/-- Both selectors hold one index, below K (R44). -/
def State.selectorsOk (s : State) : Prop :=
  s.mod.sel0 = s.mod.sel1 ∧ s.mod.sel0.toNat < Config.numDist

/-- GATE_OUT bits are complements: 01 or 10, never 00 or 11 (R162). -/
def State.gatesOk (s : State) : Prop := s.mod.gateOut = 1#2 ∨ s.mod.gateOut = 2#2

/-- A prepared module has a block size in 1..BLOCK_MAX and K shaper states for each channel (R50, R154, R156). -/
def State.preparedOk (s : State) : Prop :=
  ∀ c, s.collab = some c →
    1 ≤ s.mod.blockSize.toNat ∧ s.mod.blockSize.toNat ≤ Config.blockMax ∧
      c.strip0.sh.length = Config.numDist ∧ c.strip1.sh.length = Config.numDist

/-- The invariant of the machine. -/
structure State.Inv (s : State) : Prop where
  memory : s.memoryOk
  latch : s.latchOk
  error : s.errorOk
  selectors : s.selectorsOk
  gates : s.gatesOk
  prepared : s.preparedOk

/-- The value of a finite binary32 pattern, exactly (R8). -/
def f32Value (a : F32) : ℚ := (fSigned a : ℚ) / 2 ^ 149

/-- The number a pattern other than a NaN stands for, with the infinities below and above every number (R8, R12). -/
def f32Extended (a : F32) : WithBot (WithTop ℚ) :=
  if fIsInf a then (if fSign a then ⊥ else ((⊤ : WithTop ℚ) : WithBot (WithTop ℚ)))
  else ((f32Value a : WithTop ℚ) : WithBot (WithTop ℚ))

/-- `v` is nearest to the rational `r`: it is finite, no finite value is nearer, and when another value is as near, `v` is the
one whose last significand bit is 0 (R9). -/
def isNearestEven (v : F32) (r : ℚ) : Prop :=
  fIsFinite v = true ∧
    ∀ c : F32, fIsFinite c = true →
      |f32Value v - r| ≤ |f32Value c - r| ∧
        (f32Value c ≠ f32Value v → |f32Value c - r| = |f32Value v - r| → v.getLsbD 0 = false)

/-- Where rounding to nearest starts to give an infinity: half a unit in the last place above the largest finite value. -/
def overflowBound : ℚ := (2 ^ 25 - 1) * 2 ^ 103

/-- `v` is the rational `r` rounded to nearest with ties to even, overflow to infinity (R9). -/
def isRounded (v : F32) (r : ℚ) : Prop :=
  if |r| < overflowBound then isNearestEven v r else v = fInf (decide (r < 0))

/-- `v` is a binary32 value nearest to the real `r` (R16). -/
def isNearestReal (v : F32) (r : ℝ) : Prop :=
  fIsFinite v = true ∧ ∀ c : F32, fIsFinite c = true → |((f32Value v : ℚ) : ℝ) - r| ≤ |((f32Value c : ℚ) : ℝ) - r|

/-- `v` lies in [0, 1) (R38, R98). -/
def inUnitInterval (v : F32) : Prop := fle fZero v = true ∧ flt v fOne = true

/-- Two states hold the same bytes outside the offsets `lo .. hi-1`. -/
def sameMemoryOutside (s t : State) (lo hi : Nat) : Prop :=
  ∀ a, (a < lo ∨ hi ≤ a) → t.readByte a = s.readByte a

/-- Two states read the same at every offset. -/
def sameMemory (s t : State) : Prop := ∀ a, t.readByte a = s.readByte a

/-- A row of the opcode table: a word is the row's when its masked bits are the pattern (R87). -/
structure OpcodeRow where
  mask : Word
  pattern : Word
deriving DecidableEq, Repr

/-- The rows of the opcode map (R87), with the fields each format uses masked out (R82). -/
def opcodeRows : List OpcodeRow :=
  [ ⟨0xFFFFFFFF#32, 0x00000000#32⟩, ⟨0xFFFFF0FF#32, 0x00000010#32⟩, ⟨0xFFFFFFFF#32, 0x00000011#32⟩,
    ⟨0xFFFFFFFF#32, 0x00000012#32⟩, ⟨0xFFFFFFFF#32, 0x00000013#32⟩, ⟨0xFFFFFFFF#32, 0x00000014#32⟩,
    ⟨0xFFFFFFFF#32, 0x00000015#32⟩, ⟨0xFFFFFFFF#32, 0x00000016#32⟩, ⟨0xFFFFFFFF#32, 0x00000020#32⟩,
    ⟨0xFFFFFFFF#32, 0x00000021#32⟩, ⟨0xFFFFFFFF#32, 0x00000022#32⟩, ⟨0xFFFFE0FF#32, 0x00000030#32⟩,
    ⟨0xFFFFF0FF#32, 0x00000031#32⟩, ⟨0xFFFFF0FF#32, 0x00000032#32⟩, ⟨0xFFFFFFFF#32, 0x00000040#32⟩,
    ⟨0xFFFFFFFF#32, 0x00000041#32⟩, ⟨0xFFFFFFFF#32, 0x00000042#32⟩ ]

/-- The word is a row's of the opcode table. -/
def inOpcodeTable (w : Word) : Prop := ∃ r ∈ opcodeRows, w &&& r.mask = r.pattern

/-- A host read of STATUS (R30, R73). -/
def statusRead : BusAccess := { offset := 0x010, width := .word, op := .read }

/-- The core is about to run the command it holds: the reset input is low, a word is accepted, no STATUS read waits. -/
def readyToRun (s : State) (l : Latched) : Prop :=
  s.resetIn = false ∧ s.seq = some l ∧ ∀ a ∈ s.bus, a ≠ statusRead

/-- The cause the table of R171 gives a command in a state; `none` where no condition of the table holds. The order of
MOD_PREPARE's two is R176's. -/
def dueFault (i : Instr) (s : State) : Cause :=
  match i with
  | .oscSetShape shape => if 3 ≤ shape then .badShape else .none
  | .fftTwgen n _ => if 12 < n then .badFftSize else .none
  | .fftRadix2 n => if 12 < n then .badFftSize else .none
  | .fftBitrev n => if 12 < n then .badFftSize else .none
  | .interpNone => if s.dlyLen.toNat = 0 ∨ Config.dlySize < s.dlyBase.toNat + s.dlyLen.toNat then .dlyWindow else .none
  | .interpLinear => if s.dlyLen.toNat = 0 ∨ Config.dlySize < s.dlyBase.toNat + s.dlyLen.toNat then .dlyWindow else .none
  | .interpHermite => if s.dlyLen.toNat = 0 ∨ Config.dlySize < s.dlyBase.toNat + s.dlyLen.toNat then .dlyWindow else .none
  | .modPrepare =>
    if s.prepared then .alreadyPrepared
    else if s.operands.arg1.toNat = 0 ∨ Config.blockMax < s.operands.arg1.toNat then .badBlockSize
    else .none
  | .modProcess => if s.prepared then .none else .notPrepared
  | .nop | .oscSetSr | .oscSetFreq | .oscSetPhase | .oscAddPhase | .oscSetPw | .oscNext | .modNextDist => .none

/-- The state right after a command faults with a cause (R172). -/
def faulted (s : State) (c : Cause) : State :=
  { s with errCause := c, errCmd := s.operands.word, err := true, seq := none }

/-- The collaborator states of one channel after its first `n` samples of a block, the samples given by index: the channel
run by itself (R145, R160). -/
def stripAfter (p : Params) (k : Nat) (sr : F32) (c : Strip) (x : Nat → F32) : Nat → Strip
  | 0 => c
  | n + 1 => channelNext p k sr (stripAfter p k sr c x n) (x n)

end Sys2Proof.Machine
end

