-- ==== Sys2Proof/Certificates/Slice0/Obligations.lean ====
section
/-! DEFINITION. The statements for the provers. OBLIGATIONS.json lists them; each docstring names the rule it formalises. -/

open Sys2Proof Sys2Proof.Machine

/-! ### Encoding -/

/-- R81, R82, R87: every command with an encoding decodes from it, every field at every value (R92). -/
def Obligations.DecodeEncodeRoundTrip : Prop :=
  ∀ i : Instr, i.wellFormed = true → decode (encode i) = .ok i

/-- R81, R87, R91: a word that decodes is the encoding of what it decodes to: each word has one meaning. -/
def Obligations.DecodedWordIsItsEncoding : Prop :=
  ∀ (w : Word) (i : Instr), decode w = .ok i → i.wellFormed = true ∧ encode i = w

/-- R87, R88, R89: the decoder takes exactly the words of the opcode table's rows. -/
def Obligations.DecoderTakesExactlyTheTable : Prop :=
  ∀ w : Word, (∃ i, decode w = .ok i) ↔ inOpcodeTable w

/-- R92: words written out from the encodings, one or more of each family. -/
def Obligations.WrittenWordsDecode : Prop :=
  decode 0x00000000#32 = .ok .nop ∧ decode 0x00000110#32 = .ok (.oscSetShape 1) ∧
    decode 0x00000016#32 = .ok .oscNext ∧ decode 0x00000022#32 = .ok .interpHermite ∧
    decode 0x00001C30#32 = .ok (.fftTwgen 12 true) ∧ decode 0x00000D31#32 = .ok (.fftRadix2 13) ∧
    decode 0x00000042#32 = .ok .modNextDist ∧ decode 0x00001231#32 = .error .reservedField ∧
    decode 0x00000017#32 = .error (.reservedOpcode 0x17)

/-! ### The step, the bus and the status bits -/

/-- R24, R53, R86: a BUSY core whose word decodes to a command runs that command on the latched operands, after answering the
STATUS reads that wait (StatusReadCompletesWhileBusy and HeldAccessesKeepTheirOrder say what that is; that it is one step is the
model's choice, log 3); with none waiting nothing is added around it. -/
def Obligations.StepRunsDecodedCommand : Prop :=
  ∀ (s : State) (l : Latched) (i : Instr),
    (readyToRun s l → decode l.word = .ok i → i.wellFormed = true ∧ step s = exec i s) ∧
      (s.resetIn = false → s.seq = some l → decode l.word = .ok i →
        i.wellFormed = true ∧ step s = exec i s.answerPolls ∧
          s.answerPolls = { s with bus := s.answerPolls.bus, reply := s.answerPolls.reply }) ∧
      (s.seq = some l → s.operands = l ∧ s.answerPolls.operands = l)

/-- R88, R89 with R172: in every BUSY core a word of no row of the table faults with ILLEGAL_CMD, and only the fault is recorded,
after the STATUS reads that wait are answered (that it is one step is the model's choice, log 3); with none waiting nothing else
changes. -/
def Obligations.IllegalWordsFault : Prop :=
  ∀ (s : State) (l : Latched), ¬ inOpcodeTable l.word →
    (readyToRun s l → step s = .next { s with errCause := .illegalCmd, errCmd := l.word, err := true, seq := none }) ∧
      (s.resetIn = false → s.seq = some l →
        step s = .next { s.answerPolls with errCause := .illegalCmd, errCmd := l.word, err := true, seq := none } ∧
          s.answerPolls = { s with bus := s.answerPolls.bus, reply := s.answerPolls.reply })

/-- R31: a write to CMD is accepted when ERR is 0 (the latched values are those of R24 and R53) and discarded when it is 1; a
read returns the last accepted word, in every state, and 0 after reset. -/
def Obligations.CommandWriteIsAcceptedOrDiscarded : Prop :=
  (∀ (s : State) (w : Word), s.err = false →
    s.writeWindow 0x020 w = { s with cmd := w, seq := some { word := w, arg0 := s.arg0, arg1 := s.arg1 } }) ∧
    (∀ (s : State) (w : Word), s.err = true → s.writeWindow 0x020 w = s) ∧
    (∀ s : State, s.readWindow 0x020 = s.cmd) ∧
    (∀ s t : State, step s = .next t → t.cmd ≠ s.cmd →
      s.resetIn = true ∨
        ∃ rest, s.seq = none ∧ s.err = false ∧
          s.bus = { offset := 0x020, width := .word, op := .write t.cmd } :: rest) ∧
    State.reset.readWindow 0x020 = 0#32

/-- R70, R74: an IDLE core performs the access that arrived first. An aligned read only gives its response; an aligned write
has its effect and no other. The response of a write is the model's choice (log 13). -/
def Obligations.IdleCorePerformsFirstAccess : Prop :=
  ∀ (s : State) (off : Nat) (rest : List BusAccess),
    s.resetIn = false → s.seq = none → off < 0x40000 → off % 4 = 0 →
      (s.bus = { offset := off, width := .word, op := .read } :: rest →
        step s = .next { s with bus := rest, reply := [{ error := false, data := s.readWindow off }] }) ∧
      ∀ v : Word, s.bus = { offset := off, width := .word, op := .write v } :: rest →
        step s = .next { s.writeWindow off v with bus := rest, reply := [{ error := false, data := 0#32 }] }

/-- R66: any access but an aligned 32-bit one gets an error response and changes no core state; a read gets 0. Nothing is said
of the data a write's response carries. -/
def Obligations.OtherAccessesAreBusErrors : Prop :=
  ∀ (s : State) (a : BusAccess) (rest : List BusAccess),
    s.resetIn = false → s.seq = none → s.bus = a :: rest → a.offset < 0x40000 →
      (a.width ≠ .word ∨ a.offset % 4 ≠ 0) →
      (∃ d, step s = .next { s with bus := rest, reply := [{ error := true, data := d }] }) ∧
        (a.op = .read → step s = .next { s with bus := rest, reply := [{ error := true, data := 0#32 }] })

/-- R73: while BUSY every STATUS read that waits is answered in the next step, whatever waits before it, with STATUS as it stood,
BUSY = 1; with none waiting no response is given. That they are answered in the step that runs the command is the model's
choice (log 3). -/
def Obligations.StatusReadCompletesWhileBusy : Prop :=
  ∀ (s t : State) (l : Latched), s.resetIn = false → s.seq = some l → step s = .next t →
    (∀ a ∈ t.bus, a ≠ statusRead) ∧ (s.readWindow 0x010).getLsbD 0 = true ∧
      t.reply =
        if statusRead ∈ s.bus then
          List.replicate (s.bus.count statusRead) { error := false, data := s.readWindow 0x010 }
        else s.reply

/-- R73: while BUSY no access but a STATUS read is performed: the others wait on in their order of arrival, and no register the
host writes changes. -/
def Obligations.HeldAccessesKeepTheirOrder : Prop :=
  ∀ (s t : State) (l : Latched), s.resetIn = false → s.seq = some l → step s = .next t →
    t.bus = s.bus.filter (fun a => decide (a ≠ statusRead)) ∧ t.cmd = s.cmd ∧ t.arg0 = s.arg0 ∧ t.arg1 = s.arg1 ∧
      t.irqEn = s.irqEn ∧ t.dlyBase = s.dlyBase ∧ t.dlyLen = s.dlyLen ∧ t.ctl = s.ctl ∧
      t.mod.gateIn = s.mod.gateIn ∧ (s.err = true → t.err = true) ∧ (s.done = true → t.done = true)

/-- R178: the interrupt output from STATUS and IRQ_EN as the host reads them. -/
def Obligations.InterruptFollowsStatusAndEnables : Prop :=
  ∀ s : State,
    s.irq =
      (((s.readWindow 0x010).getLsbD 1 && (s.readWindow 0x014).getLsbD 0) ||
        ((s.readWindow 0x010).getLsbD 2 && (s.readWindow 0x014).getLsbD 1))

/-- R30: the STATUS bits; writing 1 to DONE or ERR clears it, writing 0 leaves it, and nothing else changes. -/
def Obligations.StatusIsWriteOneToClear : Prop :=
  ∀ (s : State) (v : Word),
    s.writeWindow 0x010 v = { s with done := s.done && !v.getLsbD 1, err := s.err && !v.getLsbD 2 } ∧
      (s.readWindow 0x010).getLsbD 0 = s.seq.isSome ∧ (s.readWindow 0x010).getLsbD 1 = s.done ∧
      (s.readWindow 0x010).getLsbD 2 = s.err ∧ (s.readWindow 0x010).getLsbD 3 = s.collab.isSome ∧
      (s.readWindow 0x010).toNat < 16

/-- R181: the write of 0x00000004 to STATUS clears ERR and restores nothing; ERR_CAUSE and ERR_CMD keep their values and the
next CMD write is accepted. -/
def Obligations.ReturnFromFaultClearsErr : Prop :=
  ∀ s : State,
    s.writeWindow 0x010 0x00000004#32 = { s with err := false } ∧
      s.returnFromFault = s.writeWindow 0x010 0x00000004#32 ∧
      ∀ w : Word, (s.returnFromFault.writeWindow 0x020 w).seq = some { word := w, arg0 := s.arg0, arg1 := s.arg1 } ∧
        (s.returnFromFault.writeWindow 0x020 w).cmd = w

/-- R174: while ERR is 1 a CMD write changes nothing at all; every other register and memory access works as with ERR = 0; and
a step of the IDLE core starts no command, sets no DONE, and keeps CMD, ERR_CAUSE and ERR_CMD. -/
def Obligations.FirstFaultIsKept : Prop :=
  ∀ s : State, s.err = true →
    (∀ w : Word, s.writeWindow 0x020 w = s) ∧
      (∀ (off : Nat) (v : Word), off ≠ 0x010 → off ≠ 0x020 →
        s.writeWindow off v = { State.writeWindow { s with err := false } off v with err := true } ∧
          s.readWindow off = State.readWindow { s with err := false } off) ∧
      ∀ t : State, s.resetIn = false → s.seq = none → step s = .next t →
        t.seq = none ∧ t.errCause = s.errCause ∧ t.errCmd = s.errCmd ∧ t.cmd = s.cmd ∧ (t.done = true → s.done = true)

/-- R26, R35, R70: what a host write to each register does, as the exact next state, and what a read of each returns. A write to
a read-only register is ignored; a write to a read-write one stores its defined bits and changes nothing else; a read returns
the register, reserved bits 0. STATUS, CMD, CFG0 and CFG1 have statements of their own. -/
def Obligations.RegisterAccessTypes : Prop :=
  ∀ (s : State) (v : Word),
    (∀ off ∈ [0x000, 0x004, 0x008, 0x018, 0x01C, 0x02C, 0x040, 0x044, 0x048, 0x04C, 0x050, 0x080, 0x084, 0x088, 0x08C,
        0x090, 0x098, 0x0C0, 0x0C4, 0x0C8, 0x0CC, 0x0D0, 0x0D4, 0x0D8], s.writeWindow off v = s) ∧
      (s.writeWindow 0x014 v = { s with irqEn := v.extractLsb' 0 2 } ∧ s.writeWindow 0x024 v = { s with arg0 := v } ∧
        s.writeWindow 0x028 v = { s with arg1 := v } ∧ s.writeWindow 0x060 v = { s with dlyBase := v } ∧
        s.writeWindow 0x064 v = { s with dlyLen := v } ∧
        s.writeWindow 0x094 v = { s with mod := { s.mod with gateIn := v.extractLsb' 0 2 } }) ∧
      (s.writeWindow 0x0A0 v = { s with ctl := { s.ctl with texture := v } } ∧
        s.writeWindow 0x0A4 v = { s with ctl := { s.ctl with morphKnob := v } } ∧
        s.writeWindow 0x0A8 v = { s with ctl := { s.ctl with morphCv := v } } ∧
        s.writeWindow 0x0AC v = { s with ctl := { s.ctl with amp := v } } ∧
        s.writeWindow 0x0B0 v = { s with ctl := { s.ctl with compressor := v } } ∧
        s.writeWindow 0x0B4 v = { s with ctl := { s.ctl with sideChain := v } } ∧
        s.writeWindow 0x0B8 v = { s with ctl := { s.ctl with attack := v } } ∧
        s.writeWindow 0x0BC v = { s with ctl := { s.ctl with release := v } }) ∧
      (s.readWindow 0x000 = 0x50494643#32 ∧ s.readWindow 0x014 = s.irqEn.setWidth 32 ∧
        (s.readWindow 0x018).toNat =
          (match s.errCause with
          | .none => 0
          | .illegalCmd => 1
          | .badShape => 2
          | .badFftSize => 3
          | .dlyWindow => 4
          | .notPrepared => 5
          | .alreadyPrepared => 6
          | .badBlockSize => 7) ∧
        s.readWindow 0x01C = s.errCmd ∧ s.readWindow 0x024 = s.arg0 ∧ s.readWindow 0x028 = s.arg1 ∧
        s.readWindow 0x02C = s.result) ∧
      ((s.readWindow 0x040).toNat =
          (match s.osc.shape with
          | .sine => 0
          | .triangle => 1
          | .square => 2) ∧
        s.readWindow 0x044 = s.osc.sampleRate ∧ s.readWindow 0x048 = s.osc.phase ∧ s.readWindow 0x04C = s.osc.increment ∧
        s.readWindow 0x050 = s.osc.pulseWidth ∧ s.readWindow 0x060 = s.dlyBase ∧ s.readWindow 0x064 = s.dlyLen) ∧
      (s.readWindow 0x080 = s.mod.sampleRate ∧ s.readWindow 0x084 = s.mod.blockSize ∧
        s.readWindow 0x088 = s.mod.blockRate ∧
        (s.readWindow 0x08C).toNat = s.mod.sel0.toNat + 2 ^ 8 * s.mod.sel1.toNat ∧ s.readWindow 0x090 = s.mod.envOut ∧
        s.readWindow 0x094 = s.mod.gateIn.setWidth 32 ∧ s.readWindow 0x098 = s.mod.gateOut.setWidth 32) ∧
      (s.readWindow 0x0A0 = s.ctl.texture ∧ s.readWindow 0x0A4 = s.ctl.morphKnob ∧ s.readWindow 0x0A8 = s.ctl.morphCv ∧
        s.readWindow 0x0AC = s.ctl.amp ∧ s.readWindow 0x0B0 = s.ctl.compressor ∧ s.readWindow 0x0B4 = s.ctl.sideChain ∧
        s.readWindow 0x0B8 = s.ctl.attack ∧ s.readWindow 0x0BC = s.ctl.release) ∧
      s.readWindow 0x0C0 = s.prm.texture ∧ s.readWindow 0x0C4 = s.prm.morph ∧ s.readWindow 0x0C8 = s.prm.amp ∧
        s.readWindow 0x0CC = s.prm.compressor ∧ s.readWindow 0x0D0 = s.prm.sideChain ∧ s.readWindow 0x0D4 = s.prm.attack ∧
        s.readWindow 0x0D8 = s.prm.release

/-- R60, R69, R18: at the aligned offsets of the used slots of the five memories a read returns the word of memory there, a
write is read back, and every other aligned word of the window reads as before. -/
def Obligations.StorageReadsBackAlone : Prop :=
  ∀ (s : State) (off : Nat) (v : Word), off % 4 = 0 →
    ((0x01000 ≤ off ∧ off < 0x01000 + 4 * Config.blockMax) ∨ (0x02000 ≤ off ∧ off < 0x02000 + 4 * Config.blockMax) ∨
        (0x03000 ≤ off ∧ off < 0x03000 + 4 * Config.blockMax) ∨
        (0x04000 ≤ off ∧ off < 0x04000 + 4 * Config.blockMax) ∨
        (0x08000 ≤ off ∧ off < 0x0C000) ∨ (0x10000 ≤ off ∧ off < 0x18000) ∨
        (0x20000 ≤ off ∧ off < 0x20000 + 4 * Config.dlySize)) →
      s.readWindow off = s.readWord off ∧ (s.writeWindow off v).readWindow off = v ∧
        s.writeWindow off v = { s with mem := (s.writeWindow off v).mem } ∧
        ∀ x, x % 4 = 0 → x ≠ off → (s.writeWindow off v).readWindow x = s.readWindow x

/-- R67: an aligned access to a reserved offset (a reserved range, a register offset not in R26's table, a slot of IN or OUT
from index BLOCK_MAX or of DLY from index DLY_SIZE) gets no error response, reads 0, and as a write changes nothing. -/
def Obligations.ReservedOffsetsReadZero : Prop :=
  ∀ (s : State) (off : Nat), off % 4 = 0 →
    ((∃ (c : Channel) (i : Nat), Config.blockMax ≤ i ∧ i < 1024 ∧ (off = inAddr c i ∨ off = outAddr c i)) ∨
        (∃ j, Config.dlySize ≤ j ∧ j < 32768 ∧ off = dlyAddr j) ∨ (0x00100 ≤ off ∧ off < 0x01000) ∨
        (0x05000 ≤ off ∧ off < 0x08000) ∨ (0x0C000 ≤ off ∧ off < 0x10000) ∨ (0x18000 ≤ off ∧ off < 0x20000) ∨
        off ∈ [0x00C, 0x030, 0x034, 0x038, 0x03C, 0x054, 0x058, 0x05C, 0x068, 0x06C, 0x070, 0x074, 0x078, 0x07C, 0x09C,
          0x0DC, 0x0E0, 0x0E4, 0x0E8, 0x0EC, 0x0F0, 0x0F4, 0x0F8, 0x0FC]) →
      s.perform { offset := off, width := .word, op := .read } =
          .next { s with reply := [{ error := false, data := 0#32 }] } ∧
        ∀ v : Word, ∃ d, s.perform { offset := off, width := .word, op := .write v } =
          .next { s with reply := [{ error := false, data := d }] }

/-- R28, R29: what CFG0 and CFG1 report, in every state; writes are ignored. -/
def Obligations.ConfigurationRegisters : Prop :=
  ∀ s : State,
    (s.readWindow 0x004).toNat = 12 + 2 ^ 8 * Config.numDist + 2 ^ 16 * Config.blockMax ∧
      (s.readWindow 0x008).toNat = Config.dlySize ∧ (1 ≤ Config.numDist ∧ Config.numDist ≤ 255) ∧
      (1 ≤ Config.blockMax ∧ Config.blockMax ≤ 1024) ∧
      ∀ v : Word, s.writeWindow 0x004 v = s ∧ s.writeWindow 0x008 v = s

/-! ### Completion and faults -/

/-- R170: every command either completes (R168) or faults (R172), and there is no third outcome. The step of a BUSY core takes
its word, whether it decodes or not, to one of the two and leaves the core IDLE, however many accesses and STATUS reads wait:
that it takes one step is the model's choice (log 1, log 3), that it is never BUSY forever is R170's. -/
def Obligations.EveryCommandCompletesOrFaults : Prop :=
  (∀ (i : Instr) (s : State), ∃ t, exec i s = .next t ∧ t.seq = none ∧
    ((t.done = true ∧ t.err = s.err ∧ t.errCause = s.errCause ∧ t.errCmd = s.errCmd) ∨
      ∃ c, c ≠ .none ∧ t = { s with errCause := c, errCmd := t.errCmd, err := true, seq := none })) ∧
    ∀ (s : State) (l : Latched), s.resetIn = false → s.seq = some l →
      ∃ t, step s = .next t ∧ t.seq = none ∧
        ((t.done = true ∧ t.err = s.err ∧ t.errCause = s.errCause ∧ t.errCmd = s.errCmd) ∨
          (t.err = true ∧ t.errCause ≠ .none ∧ t.errCmd = l.word ∧ t.done = s.done))

/-- R171, R176 with R172: a command faults exactly where the table of causes says, with that cause and nothing else changed;
elsewhere it completes. In a state with no command in progress the operands are the model's choice (log 15). -/
def Obligations.FaultsAreThoseOfTheTable : Prop :=
  ∀ (i : Instr) (s : State),
    (dueFault i s ≠ .none → exec i s = .next (faulted s (dueFault i s))) ∧
      (dueFault i s = .none → ∃ t, exec i s = .next t ∧ t.done = true ∧ t.err = s.err ∧ t.errCause = s.errCause ∧
        t.errCmd = s.errCmd)

/-- R167: NOP does nothing apart from completion. -/
def Obligations.NopOnlyCompletes : Prop :=
  ∀ s : State, exec .nop s = .next { s with done := true, seq := none }

/-! ### Oscillator -/

/-- R104: SHAPE 0 to 2 sets OSC_SHAPE and nothing else; 3 and above faults with BAD_SHAPE. In a state with no command in
progress the operands are the model's choice (log 15). -/
def Obligations.OscSetShapeSetsOrFaults : Prop :=
  ∀ (s : State) (n : Nat),
    (n < 3 → ∃ sh, exec (.oscSetShape n) s = .next { s with osc := { s.osc with shape := sh }, done := true, seq := none } ∧
      (shapeCode sh).toNat = n) ∧
      (3 ≤ n → exec (.oscSetShape n) s = .next (faulted s .badShape))

/-- R105, R107, R109: the sample rate, the phase and the pulse width are stored bit for bit, and nothing else changes. In a
state with no command in progress the operands are the model's choice (log 15). -/
def Obligations.OscRawSettersStoreBits : Prop :=
  ∀ s : State,
    exec .oscSetSr s =
        .next { s with osc := { s.osc with sampleRate := s.operands.arg0 }, done := true, seq := none } ∧
      exec .oscSetPhase s =
        .next { s with osc := { s.osc with phase := s.operands.arg0 }, done := true, seq := none } ∧
      exec .oscSetPw s =
        .next { s with osc := { s.osc with pulseWidth := s.operands.arg0 }, done := true, seq := none }

/-- R106: OSC_INC is f divided by OSC_SR, and nothing else changes; with OSC_SR = +0.0 it is +inf for f > 0, -inf for f < 0
and NaN for f = 0 or NaN. In a state with no command in progress the operands are the model's choice (log 15). -/
def Obligations.OscSetFreqDivides : Prop :=
  ∀ s : State,
    exec .oscSetFreq s =
        .next { s with
          osc := { s.osc with increment := fdiv s.operands.arg0 s.osc.sampleRate }, done := true, seq := none } ∧
      ∀ f : F32,
        (flt fZero f = true → fdiv f fZero = 0x7F800000#32) ∧ (flt f fZero = true → fdiv f fZero = 0xFF800000#32) ∧
          (feq f fZero = true → fdiv f fZero = canonicalNaN) ∧ (fIsNaN f = true → fdiv f fZero = canonicalNaN)

/-- R108: the phase advances by ARG0, as the pseudocode of R98 has it, and nothing else changes. In a state with no command in
progress the operands are the model's choice (log 15). -/
def Obligations.OscAddPhaseAdvances : Prop :=
  ∀ s : State,
    exec .oscAddPhase s =
      .next { s with
        osc := { s.osc with
          phase :=
            let t := fadd s.osc.phase s.operands.arg0
            let r := fsub t (ffloor t)
            if feq r fOne then fZero else r }
        done := true
        seq := none }

/-- R98: the advance is the pseudocode; it leaves the phase in [0,1), never -0.0, when the sum is finite (the fix-up replacing
the 1.0 that a sum from -2^-25 up to below 0 rounds to), and the canonical NaN when it is not; a NaN phase stays NaN. -/
def Obligations.AdvancedPhaseIsNormalised : Prop :=
  ∀ p o : F32,
    let t := fadd p o
    let r := fsub t (ffloor t)
    advancePhase p o = (if feq r fOne then fZero else r) ∧
      (fIsFinite t = true → inUnitInterval (advancePhase p o) ∧ advancePhase p o ≠ 0x80000000#32) ∧
      (fle 0xB3000000#32 t = true → flt t fZero = true → r = fOne ∧ advancePhase p o = fZero) ∧
      (fIsFinite t = false → advancePhase p o = canonicalNaN) ∧
      (fIsNaN p = true → advancePhase p o = canonicalNaN)

/-- R110, R103, R99: RESULT is the waveform at the phase before the advance; the phase advances by OSC_INC; nothing else
changes. -/
def Obligations.OscNextReturnsThenAdvances : Prop :=
  ∀ s : State,
    exec .oscNext s =
      .next { s with
        osc := { s.osc with phase := advancePhase s.osc.phase s.osc.increment }
        result :=
          match s.osc.shape with
          | .sine => sin2pi s.osc.phase
          | .triangle => triangleWave s.osc.phase
          | .square => pulseWave s.osc.phase s.osc.pulseWidth
        done := true
        seq := none }

/-- R100: the triangle formula; on [0,1] its values lie in [-1,1], with the trough at 0 and 1, the peak at 0.5 and the zeros at
0.25 and 0.75; a NaN phase gives the canonical NaN. -/
def Obligations.TriangleWaveRange : Prop :=
  (∀ p : F32, triangleWave p =
      fsub (fmul 0x40800000#32 (if fle p 0x3F000000#32 then p else fsub 0x3F800000#32 p)) 0x3F800000#32) ∧
    (∀ p : F32, fle fZero p = true → fle p fOne = true →
      fle fMinusOne (triangleWave p) = true ∧ fle (triangleWave p) fOne = true) ∧
    triangleWave 0x00000000#32 = 0xBF800000#32 ∧ triangleWave 0x3E800000#32 = 0x00000000#32 ∧
    triangleWave 0x3F000000#32 = 0x3F800000#32 ∧ triangleWave 0x3F400000#32 = 0x00000000#32 ∧
    triangleWave 0x3F800000#32 = 0xBF800000#32 ∧ triangleWave 0x40000000#32 = 0xC0A00000#32 ∧
    triangleWave 0xBF000000#32 = 0xC0400000#32 ∧ ∀ p : F32, fIsNaN p = true → triangleWave p = canonicalNaN

/-- R102: the pulse is -1.0 where the phase is below the clamped width and +1.0 elsewhere; a NaN phase or width gives +1.0;
the reset width gives +1.0 for every p >= 0; a width of 0.5 gives -1.0 on [0,0.5) and +1.0 on [0.5,1). -/
def Obligations.PulseWaveValues : Prop :=
  ∀ p w : F32,
    (pulseWave p w =
      if flt p (if flt w fZero then fZero else if flt fOne w then fOne else w) then 0xBF800000#32 else 0x3F800000#32) ∧
      (fIsNaN p = true ∨ fIsNaN w = true → pulseWave p w = 0x3F800000#32) ∧
      (fle fZero p = true → pulseWave p State.reset.osc.pulseWidth = 0x3F800000#32) ∧
      (fle fZero p = true → flt p fHalf = true → pulseWave p fHalf = 0xBF800000#32) ∧
      (fle fHalf p = true → flt p fOne = true → pulseWave p fHalf = 0x3F800000#32)

/-- R101: SIN2PI of a finite phase is a binary32 value nearest to the real sin(2 pi p), wherever the enclosure of
Machine/Sine.lean decides the rounding (the model's own premise, log 8); at the exact points no premise is needed: a nonzero
multiple of 1/2 gives +0.0, 1/4 + k gives 1.0 and 3/4 + k gives -1.0. A zero keeps its sign; an infinity or NaN gives the
canonical NaN. -/
def Obligations.SineIsCorrectlyRounded : Prop :=
  (∀ p : F32, fIsFinite p = true →
    (foldTurn (phaseTurn p) = 0 ∨ foldTurn (phaseTurn p) = quarterTurn ∨ sineDecided (foldTurn (phaseTurn p)) = true) →
      isNearestReal (sin2pi p) (Real.sin (2 * Real.pi * ((f32Value p : ℚ) : ℝ)))) ∧
    (∀ (p : F32) (k : ℤ), fIsFinite p = true →
      (k ≠ 0 → f32Value p = (k : ℚ) / 2 → sin2pi p = 0x00000000#32) ∧
        (f32Value p = 1 / 4 + (k : ℚ) → sin2pi p = 0x3F800000#32) ∧
        (f32Value p = 3 / 4 + (k : ℚ) → sin2pi p = 0xBF800000#32)) ∧
    (∀ p : F32, fMag p = 0 → sin2pi p = p) ∧ ∀ p : F32, fIsFinite p = false → sin2pi p = canonicalNaN

/-- R111: no command but OSC_SET_PHASE, OSC_ADD_PHASE and OSC_NEXT changes the phase. -/
def Obligations.OnlyThreeCommandsMoveThePhase : Prop :=
  ∀ (i : Instr) (s t : State), i ≠ .oscSetPhase → i ≠ .oscAddPhase → i ≠ .oscNext → exec i s = .next t →
    t.osc.phase = s.osc.phase

/-! ### Interpolation -/

/-- R116, R113: with a window that fits, INTERP_NONE puts the sample at `pos mod len` of the window into RESULT, whatever ARG1
holds, and changes nothing else. In a state with no command in progress the operands are the model's choice (log 15). -/
def Obligations.InterpNoneReadsTheTap : Prop :=
  ∀ s : State, s.dlyLen.toNat ≠ 0 → s.dlyBase.toNat + s.dlyLen.toNat ≤ Config.dlySize →
    exec .interpNone s =
      .next { s with
        result := s.readWord (0x20000 + 4 * (s.dlyBase.toNat + s.operands.arg0.toNat % s.dlyLen.toNat))
        done := true
        seq := none }

/-- R117, R113: with a window that fits, INTERP_LINEAR puts `x0 + frac (x1 - x0)` into RESULT, one rounding a step, and
changes nothing else. In a state with no command in progress the operands are the model's choice (log 15). -/
def Obligations.InterpLinearBlendsTwoTaps : Prop :=
  ∀ s : State, s.dlyLen.toNat ≠ 0 → s.dlyBase.toNat + s.dlyLen.toNat ≤ Config.dlySize →
    exec .interpLinear s =
      .next { s with
        result :=
          let x0 := s.readWord (0x20000 + 4 * (s.dlyBase.toNat + s.operands.arg0.toNat % s.dlyLen.toNat))
          let x1 := s.readWord (0x20000 + 4 * (s.dlyBase.toNat + (s.operands.arg0.toNat + 1) % s.dlyLen.toNat))
          fadd x0 (fmul s.operands.arg1 (fsub x1 x0))
        done := true
        seq := none }

/-- R119, R118, R115: with a window that fits, INTERP_HERMITE evaluates the kernel, one rounding a step, at the four taps
around `pos mod len`, the one before index 0 being the last, and changes nothing else. In a state with no command in progress
the operands are the model's choice (log 15). -/
def Obligations.InterpHermiteWrapsFourTaps : Prop :=
  ∀ s : State, s.dlyLen.toNat ≠ 0 → s.dlyBase.toNat + s.dlyLen.toNat ≤ Config.dlySize →
    exec .interpHermite s =
      .next { s with
        result :=
          let len := s.dlyLen.toNat
          let p := s.operands.arg0.toNat % len
          let t := s.operands.arg1
          let buf := fun i => s.readWord (0x20000 + 4 * (s.dlyBase.toNat + i))
          let xm1 := buf (if p = 0 then len - 1 else p - 1)
          let x0 := buf p
          let x1 := buf ((p + 1) % len)
          let x2 := buf ((p + 2) % len)
          let c := fmul (fsub x1 xm1) fHalf
          let v := fsub x0 x1
          let w := fadd c v
          let a := fadd (fadd w v) (fmul (fsub x2 x0) fHalf)
          let bneg := fadd w a
          fadd (fmul (fadd (fmul (fsub (fmul a t) bneg) t) c) t) x0
        done := true
        seq := none }

/-! ### FFT -/

/-- R125, R59: FFT_TWGEN writes TW[0 .. N/2-1] with the forward or the inverse values, `re` at the lower address; no other byte
of memory and no register but DONE and BUSY changes. -/
def Obligations.TwgenWritesTheTable : Prop :=
  ∀ (s : State) (n : Nat) (inv : Bool), n ≤ 12 →
    ∃ t, exec (.fftTwgen n inv) s = .next t ∧ t = { s with mem := t.mem, done := true, seq := none } ∧
      (∀ k, k < 2 ^ n / 2 →
        let w := if inv then twiddleInverse k n else twiddleForward k n
        t.readWord (0x08000 + 8 * k) = w.re ∧ t.readWord (0x08000 + 8 * k + 4) = w.im) ∧
      sameMemoryOutside s t 0x08000 (0x08000 + 8 * (2 ^ n / 2))

/-- R126: the inverse table is the forward table with bit 31 of each `im` inverted. -/
def Obligations.InverseTableIsTheConjugate : Prop :=
  ∀ (s t u : State) (n : Nat), n ≤ 12 → exec (.fftTwgen n false) s = .next t → exec (.fftTwgen n true) s = .next u →
    ∀ k, k < 2 ^ n / 2 →
      u.readWord (0x08000 + 8 * k) = t.readWord (0x08000 + 8 * k) ∧
        u.readWord (0x08000 + 8 * k + 4) = t.readWord (0x08000 + 8 * k + 4) ^^^ 0x80000000#32

/-- R124: every entry of every forward table up to N = 4096 is nearest to (cos(2 pi k/N), -sin(2 pi k/N)); the zero sine of
k = 0 gives -0.0 and the zero cosine of 4k = N gives +0.0. -/
def Obligations.TwiddlesAreCorrectlyRounded : Prop :=
  ∀ n k : Nat, n ≤ 12 → k < 2 ^ n / 2 →
    isNearestReal (twiddleForward k n).re (Real.cos (2 * Real.pi * (k : ℝ) / (2 : ℝ) ^ n)) ∧
      isNearestReal (twiddleForward k n).im (-Real.sin (2 * Real.pi * (k : ℝ) / (2 : ℝ) ^ n)) ∧
      (k = 0 → (twiddleForward k n).im = 0x80000000#32) ∧ (4 * k = 2 ^ n → (twiddleForward k n).re = 0x00000000#32)

/-- R127, R20: FFT_RADIX2 changes no register but DONE and BUSY, and no byte outside CBUF[0 .. N-1]; for N = 1 it changes nothing
of memory, and for N = 2 it is one butterfly: with m the complex product of TW[0] and CBUF[1], each product, difference and sum
rounded once, CBUF[0] becomes CBUF[0] + m and CBUF[1] becomes CBUF[0] - m, componentwise. -/
def Obligations.RadixTwoTransformsInPlace : Prop :=
  ∀ (s : State) (n : Nat), n ≤ 12 →
    ∃ t, exec (.fftRadix2 n) s = .next t ∧ t = { s with mem := t.mem, done := true, seq := none } ∧
      sameMemoryOutside s t 0x10000 (0x10000 + 8 * 2 ^ n) ∧ (n = 0 → t.mem = s.mem) ∧
      (n = 1 →
        let wre := s.readWord 0x08000
        let wim := s.readWord 0x08004
        let are := s.readWord 0x10000
        let aim := s.readWord 0x10004
        let bre := s.readWord 0x10008
        let bim := s.readWord 0x1000C
        let mre := fsub (fmul wre bre) (fmul wim bim)
        let mim := fadd (fmul wre bim) (fmul wim bre)
        t.readWord 0x10000 = fadd are mre ∧ t.readWord 0x10004 = fadd aim mim ∧ t.readWord 0x10008 = fsub are mre ∧
          t.readWord 0x1000C = fsub aim mim)

/-- R127, R128, R20: a stage computes every one of its butterflies from the values before the stage: the pairs are disjoint, and
no byte outside CBUF[0 .. N-1] and no register changes, so TW is only read. The product is the four products, a difference and
a sum, each rounded once; the rest is componentwise. FFT_RADIX2 is the stages in order. -/
def Obligations.StageComputesEveryButterfly : Prop :=
  (∀ (s : State) (order stage j pair : Nat), order ≤ 12 → stage < order → j < 2 ^ (order - stage - 1) →
    pair < 2 ^ stage →
    let t := s.fftStage order stage
    let tw := 0x08000 + 8 * (pair * 2 ^ (order - stage - 1))
    let i1 := 0x10000 + 8 * (j * 2 ^ (stage + 1) + pair)
    let i2 := i1 + 8 * 2 ^ stage
    let wre := s.readWord tw
    let wim := s.readWord (tw + 4)
    let are := s.readWord i1
    let aim := s.readWord (i1 + 4)
    let bre := s.readWord i2
    let bim := s.readWord (i2 + 4)
    let mre := fsub (fmul wre bre) (fmul wim bim)
    let mim := fadd (fmul wre bim) (fmul wim bre)
    t.readWord i1 = fadd are mre ∧ t.readWord (i1 + 4) = fadd aim mim ∧ t.readWord i2 = fsub are mre ∧
      t.readWord (i2 + 4) = fsub aim mim) ∧
    (∀ (s : State) (order stage : Nat), order ≤ 12 → stage < order →
      s.fftStage order stage = { s with mem := (s.fftStage order stage).mem } ∧
        sameMemoryOutside s (s.fftStage order stage) 0x10000 (0x10000 + 8 * 2 ^ order)) ∧
    ∀ (s : State) (order : Nat), order ≤ 12 →
      exec (.fftRadix2 order) s =
        .next { (List.range order).foldl (fun u stage => u.fftStage order stage) s with done := true, seq := none }

/-- R129: FFT_BITREV moves the element at the reversed index to each index, bit for bit; no register but DONE and BUSY changes,
and no byte outside CBUF[0 .. N-1]. The reversal is said bit by bit. -/
def Obligations.BitrevPermutesTheBuffer : Prop :=
  ∀ (s : State) (n : Nat), n ≤ 12 →
    ∃ t, exec (.fftBitrev n) s = .next t ∧ t = { s with mem := t.mem, done := true, seq := none } ∧
      sameMemoryOutside s t 0x10000 (0x10000 + 8 * 2 ^ n) ∧
      ∀ i j, i < 2 ^ n → j < 2 ^ n → (∀ b, b < n → j.testBit b = i.testBit (n - 1 - b)) →
        t.readWord (0x10000 + 8 * i) = s.readWord (0x10000 + 8 * j) ∧
          t.readWord (0x10000 + 8 * i + 4) = s.readWord (0x10000 + 8 * j + 4)

/-- R129: applying FFT_BITREV twice restores every byte of memory. -/
def Obligations.BitrevTwiceRestores : Prop :=
  ∀ (s t u : State) (n : Nat), n ≤ 12 → exec (.fftBitrev n) s = .next t → exec (.fftBitrev n) t = .next u →
    sameMemory s u

/-! ### Module -/

/-- R154, R155, R9: on an unprepared module a legal block size prepares it: the eight smoothers at the block rate, and for each
channel EF, COMP, DN and the K shapers at the sample rate; nothing else but MOD_SR, MOD_BS, MOD_BRATE, DONE and BUSY changes.
The block size is converted exactly. On a prepared module the command faults with ALREADY_PREPARED, whatever ARG1 is; on an
unprepared one an illegal block size faults with BAD_BLOCK_SIZE. In a state with no command in progress the operands are the
model's choice (log 15). -/
def Obligations.ModPrepareOnce : Prop :=
  (∀ s : State,
    (s.collab = none → s.operands.arg1.toNat ≠ 0 → s.operands.arg1.toNat ≤ Config.blockMax →
      let sr := s.operands.arg0
      let brate := fdiv sr (fOfNat s.operands.arg1.toNat)
      let sm := Config.smoothPrepare brate
      let strip : Strip :=
        { ef := Config.efPrepare sr
          comp := Config.compPrepare sr
          dn := Config.dnPrepare sr
          sh := (List.range Config.numDist).map (fun k => Config.shaperPrepare k sr) }
      exec .modPrepare s =
        .next { s with
          mod := { s.mod with sampleRate := sr, blockSize := s.operands.arg1, blockRate := brate }
          collab := some
            { smooth :=
                { texture := sm, morphKnob := sm, morphCv := sm, amp := sm, compressor := sm, sideChain := sm,
                  attack := sm, release := sm }
              strip0 := strip
              strip1 := strip }
          done := true
          seq := none }) ∧
      (s.collab ≠ none → exec .modPrepare s = .next (faulted s .alreadyPrepared)) ∧
      (s.collab = none → (s.operands.arg1.toNat = 0 ∨ Config.blockMax < s.operands.arg1.toNat) →
        exec .modPrepare s = .next (faulted s .badBlockSize))) ∧
    ∀ n : Nat, n ≤ 2 ^ 24 → fIsFinite (fOfNat n) = true ∧ f32Value (fOfNat n) = (n : ℚ) ∧ fSign (fOfNat n) = false

/-- R156, R157, R158, R14: MOD_PROCESS on a prepared module completes. The snapshot is the smoothed clamped controls, with the
two morph values added and clamped; no register but PRM_*, ENV_OUT, GATE_OUT, DONE and BUSY changes, and no byte outside
OUT[c][0 .. bs-1]. The clamp is R14's, and a NaN passes it. On an unprepared module it faults with NOT_PREPARED. In a state with
no command in progress the operands are the model's choice (log 15). -/
def Obligations.ModProcessFrame : Prop :=
  (∀ (s : State) (c : Collaborators), s.collab = some c →
    ∃ t, exec .modProcess s = .next t ∧
      t = { s with
        prm := t.prm
        mod := { s.mod with envOut := t.mod.envOut, gateOut := t.mod.gateOut }
        collab := t.collab
        mem := t.mem
        done := true
        seq := none } ∧
      (∀ a, (a < 0x03000 ∨ 0x03000 + 4 * s.mod.blockSize.toNat ≤ a) →
        (a < 0x04000 ∨ 0x04000 + 4 * s.mod.blockSize.toNat ≤ a) → t.readByte a = s.readByte a) ∧
      let clamp01 := fun v : F32 => if flt v fZero then fZero else if flt fOne v then fOne else v
      let v := fun (sm : SmoothState) (x : F32) => (Config.smoothStep sm (clamp01 x)).2
      t.prm =
        { texture := v c.smooth.texture s.ctl.texture
          morph := clamp01 (fadd (v c.smooth.morphKnob s.ctl.morphKnob) (v c.smooth.morphCv s.ctl.morphCv))
          amp := v c.smooth.amp s.ctl.amp
          compressor := v c.smooth.compressor s.ctl.compressor
          sideChain := v c.smooth.sideChain s.ctl.sideChain
          attack := v c.smooth.attack s.ctl.attack
          release := v c.smooth.release s.ctl.release }) ∧
    (∀ s : State, s.collab = none → exec .modProcess s = .next (faulted s .notPrepared)) ∧
    ∀ v lo hi : F32, fclamp v lo hi = (if flt v lo then lo else if flt hi v then hi else v) ∧
      (fIsNaN v = true → fclamp v lo hi = v)

/-- R144, R145, R156, R158 to R161: the block's outputs are those of two channels run each by itself on its own input samples,
from the states that the remapped snapshot leaves in EF and COMP; ENV_OUT comes from the last sample's two envelopes by the
table of ENV_COMBINE; the strips end where those runs end, and each smoother has taken one step on its clamped control. -/
def Obligations.BlockIsTwoIndependentChannels : Prop :=
  ∀ (s t : State) (c : Collaborators), s.collab = some c → 1 ≤ s.mod.blockSize.toNat →
    s.mod.blockSize.toNat ≤ Config.blockMax → exec .modProcess s = .next t →
      let bs := s.mod.blockSize.toNat
      let k0 := s.mod.sel0.toNat
      let k1 := s.mod.sel1.toNat
      let sr := s.mod.sampleRate
      let x0 := fun i => s.readWord (0x01000 + 4 * i)
      let x1 := fun i => s.readWord (0x02000 + 4 * i)
      let start := fun strip : Strip =>
        { strip with
          ef := Config.efSet strip.ef (Config.remapAttack t.prm.attack) (Config.remapRelease t.prm.release)
          comp :=
            Config.compSet strip.comp (Config.remapThresh t.prm.compressor) (Config.remapRatio t.prm.compressor)
              Config.kneeDb t.prm.sideChain }
      let run0 := stripAfter t.prm k0 sr (start c.strip0) x0
      let run1 := stripAfter t.prm k1 sr (start c.strip1) x1
      let e0 := channelEnvelope (run0 (bs - 1)) (x0 (bs - 1))
      let e1 := channelEnvelope (run1 (bs - 1)) (x1 (bs - 1))
      let clamp01 := fun v : F32 => if flt v fZero then fZero else if flt fOne v then fOne else v
      let sm := fun (st : SmoothState) (x : F32) => (Config.smoothStep st (clamp01 x)).1
      (∀ i, i < bs →
        t.readWord (0x03000 + 4 * i) = channelSample t.prm k0 sr (run0 i) (x0 i) ∧
          t.readWord (0x04000 + 4 * i) = channelSample t.prm k1 sr (run1 i) (x1 i)) ∧
        (Config.envCombine = .left → t.mod.envOut = e0) ∧ (Config.envCombine = .right → t.mod.envOut = e1) ∧
        (Config.envCombine = .max → t.mod.envOut = if flt e0 e1 then e1 else e0) ∧
        t.collab = some
          { smooth :=
              { texture := sm c.smooth.texture s.ctl.texture
                morphKnob := sm c.smooth.morphKnob s.ctl.morphKnob
                morphCv := sm c.smooth.morphCv s.ctl.morphCv
                amp := sm c.smooth.amp s.ctl.amp
                compressor := sm c.smooth.compressor s.ctl.compressor
                sideChain := sm c.smooth.sideChain s.ctl.sideChain
                attack := sm c.smooth.attack s.ctl.attack
                release := sm c.smooth.release s.ctl.release }
            strip0 := run0 bs
            strip1 := run1 bs }

/-- R145, R149, R150, R141: the channel pipeline in its order: envelope of the raw sample, de-rez amount, noise stage, drive, the
selected algorithm, the compressor keyed by its own input. The clamps are spelled out (R14). The drive goes from DRIVE_MIN, 1.0,
at amp = 0 to DRIVE_MAX, 4.0 or 8.0, at amp = 1. -/
def Obligations.ChannelPipelineOrder : Prop :=
  let drive := fun amp : F32 => fadd Config.driveMin (fmul amp (fsub Config.driveMax Config.driveMin))
  (∀ (p : Params) (k : Nat) (sr : F32) (c : Strip) (x : F32), k < c.sh.length →
    let clamp01 := fun v : F32 => if flt v fZero then fZero else if flt fOne v then fOne else v
    let ef := Config.efStep c.ef x
    let derez := clamp01 (fadd (clamp01 ef.2) p.texture)
    let dn := Config.dnStep c.dn x derez p.morph
    let s3 := fmul dn.2 (drive p.amp)
    ∃ st, c.sh[k]? = some st ∧
      let sh := Config.shaperStep k st s3
      let comp := Config.compStep c.comp sh.2 sh.2
      channelSample p k sr c x = comp.2 ∧ channelEnvelope c x = ef.2 ∧
        channelNext p k sr c x = { ef := ef.1, comp := comp.1, dn := dn.1, sh := c.sh.set k sh.1 }) ∧
    Config.driveMin = 0x3F800000#32 ∧ (Config.driveMax = 0x40800000#32 ∨ Config.driveMax = 0x41000000#32) ∧
    drive fZero = Config.driveMin ∧ drive fOne = Config.driveMax

/-- R163: the gate truth table, recomputed by every MOD_PROCESS that runs. No other command, no host write to any offset, and no
step but a MOD_PROCESS or a reset changes GATE_OUT. -/
def Obligations.GateTruthTable : Prop :=
  (∀ (s t : State), s.collab ≠ none → exec .modProcess s = .next t →
    (s.mod.gateIn = 0#2 → t.mod.gateOut = 2#2) ∧ (s.mod.gateIn = 1#2 → t.mod.gateOut = 1#2) ∧
      (s.mod.gateIn = 2#2 → t.mod.gateOut = 1#2) ∧ (s.mod.gateIn = 3#2 → t.mod.gateOut = 2#2)) ∧
    (∀ (i : Instr) (s t : State), i ≠ .modProcess → exec i s = .next t → t.mod.gateOut = s.mod.gateOut) ∧
    (∀ (s : State) (off : Nat) (v : Word), (s.writeWindow off v).mod.gateOut = s.mod.gateOut) ∧
    ∀ s t : State, step s = .next t → t.mod.gateOut ≠ s.mod.gateOut →
      s.resetIn = true ∨ ∃ l, s.seq = some l ∧ decode l.word = .ok .modProcess

/-- R152, R164: MOD_NEXT_DIST advances both selectors modulo K and changes nothing else; K advances return a selector to its
starting value. -/
def Obligations.NextDistAdvancesBoth : Prop :=
  (∀ s : State, ∃ t, exec .modNextDist s = .next t ∧
    t = { s with mod := { s.mod with sel0 := t.mod.sel0, sel1 := t.mod.sel1 }, done := true, seq := none } ∧
      t.mod.sel0.toNat = (s.mod.sel0.toNat + 1) % Config.numDist ∧
      t.mod.sel1.toNat = (s.mod.sel1.toNat + 1) % Config.numDist) ∧
    ∀ sel : BitVec 8, sel.toNat < Config.numDist → (nextSelector^[Config.numDist]) sel = sel

/-! ### The whole machine -/

/-- R52: PREPARED is STATUS bit 3, 0 after reset; a MOD_PREPARE that completes sets it, no other step sets it, and only reset
clears it. -/
def Obligations.OnlyResetUnprepares : Prop :=
  State.reset.prepared = false ∧ (∀ s : State, (s.readWindow 0x010).getLsbD 3 = s.prepared) ∧
    (∀ s t : State, exec .modPrepare s = .next t → t.err = false → t.prepared = true) ∧
    ∀ s t : State, step s = .next t →
      (s.prepared = true → t.prepared = false → s.resetIn = true) ∧
        (s.prepared = false → t.prepared = true → ∃ l, s.seq = some l ∧ decode l.word = .ok .modPrepare)

/-- R23, R68: no command writes ARG0, ARG1 or any other register the host writes, nor CMD; nor does it touch what waits on the
bus. -/
def Obligations.CommandsNeverWriteHostRegisters : Prop :=
  ∀ (i : Instr) (s t : State), exec i s = .next t →
    t.arg0 = s.arg0 ∧ t.arg1 = s.arg1 ∧ t.cmd = s.cmd ∧ t.irqEn = s.irqEn ∧ t.dlyBase = s.dlyBase ∧
      t.dlyLen = s.dlyLen ∧ t.ctl = s.ctl ∧ t.mod.gateIn = s.mod.gateIn ∧ t.bus = s.bus ∧ t.reply = s.reply ∧
      t.resetIn = s.resetIn ∧ t.epoch = s.epoch

/-- R25: no command but OSC_NEXT and the interpolation commands writes RESULT, and a faulting command does not. -/
def Obligations.OnlyFourCommandsWriteResult : Prop :=
  ∀ (i : Instr) (s t : State), exec i s = .next t →
    (i ≠ .oscNext → i ≠ .interpNone → i ≠ .interpLinear → i ≠ .interpHermite → t.result = s.result) ∧
      (dueFault i s ≠ .none → t.result = s.result)

/-- R61, R65, R68: no command writes IN or DLY, and only FFT_TWGEN writes TW. -/
def Obligations.CommandsLeaveInputMemories : Prop :=
  ∀ (i : Instr) (s t : State), s.preparedOk → exec i s = .next t →
    (∀ a, 0x01000 ≤ a → a < 0x03000 → t.readByte a = s.readByte a) ∧
      (∀ a, 0x20000 ≤ a → a < 0x40000 → t.readByte a = s.readByte a) ∧
      ((∀ n inv, i ≠ .fftTwgen n inv) → ∀ a, 0x08000 ≤ a → a < 0x0C000 → t.readByte a = s.readByte a)

/-! ### Reset and the invariant -/

/-- R194: after reset every register reads the value of R26's table, the sequencer is IDLE and the interrupt output is low. -/
def Obligations.ResetRegisterValues : Prop :=
  State.reset.readWindow 0x000 = 0x50494643#32 ∧ State.reset.readWindow 0x098 = 0x00000002#32 ∧
    (State.reset.readWindow 0x004).toNat = 12 + 2 ^ 8 * Config.numDist + 2 ^ 16 * Config.blockMax ∧
    (State.reset.readWindow 0x008).toNat = Config.dlySize ∧
    (∀ off ∈ [0x010, 0x014, 0x018, 0x01C, 0x020, 0x024, 0x028, 0x02C, 0x040, 0x044, 0x048, 0x04C, 0x050, 0x060, 0x064,
        0x080, 0x084, 0x088, 0x08C, 0x090, 0x094, 0x0A0, 0x0A4, 0x0A8, 0x0AC, 0x0B0, 0x0B4, 0x0B8, 0x0BC, 0x0C0, 0x0C4,
        0x0C8, 0x0CC, 0x0D0, 0x0D4, 0x0D8], State.reset.readWindow off = 0#32) ∧
    State.reset.seq = none ∧ State.reset.irq = false

/-- R193, R194: the reset input, at any time, brings every register to its reset value. That memory is drawn anew and waiting
accesses are dropped is the model's choice (log 4, log 5). -/
def Obligations.ResetInputResets : Prop :=
  ∀ s : State, s.resetIn = true → ∃ t, step s = .next t ∧ t = { State.reset with epoch := t.epoch } ∧
    ∀ off, off < 0x100 → t.readWindow off = State.reset.readWindow off

/-- R194: the state after reset meets the invariant. -/
def Obligations.ResetMeetsTheInvariant : Prop := State.reset.Inv

/-- Every step keeps the invariant: memory canonical and within storage (R60), the latch (R53), ERR with a cause (R172),
selectors equal and below K (R44), complementary gates (R162), a legal block size and K shaper states when prepared (R154). -/
def Obligations.EveryStepKeepsTheInvariant : Prop :=
  ∀ s t : State, s.Inv → step s = .next t → t.Inv

/-! ### Arithmetic -/

/-- R8, R9: the constants the statements name are 0.0, 0.5 and 1.0. On finite operands each primitive is the exact result
rounded to nearest even, and so is the conversion of an integer. The zeros have IEEE 754's signs: an exact zero sum is +0
unless both operands are -0, and a product or quotient, rounded to zero or not, has the exclusive or of the operands' signs.
-/
def Obligations.ArithmeticIsCorrectlyRounded : Prop :=
  (fZero = 0x00000000#32 ∧ fHalf = 0x3F000000#32 ∧ fOne = 0x3F800000#32 ∧ f32Value fZero = 0 ∧ f32Value fHalf = 1 / 2 ∧
    f32Value fOne = 1) ∧
  (∀ a b : F32, fIsFinite a = true → fIsFinite b = true →
    isRounded (fadd a b) (f32Value a + f32Value b) ∧ isRounded (fsub a b) (f32Value a - f32Value b) ∧
      isRounded (fmul a b) (f32Value a * f32Value b) ∧
      (fMag b ≠ 0 → isRounded (fdiv a b) (f32Value a / f32Value b)) ∧
      (f32Value a + f32Value b = 0 →
        fadd a b = if a = 0x80000000#32 ∧ b = 0x80000000#32 then 0x80000000#32 else 0x00000000#32) ∧
      (f32Value a - f32Value b = 0 →
        fsub a b = if a = 0x80000000#32 ∧ b = 0x00000000#32 then 0x80000000#32 else 0x00000000#32) ∧
      fSign (fmul a b) = (fSign a != fSign b) ∧ (fMag b ≠ 0 → fSign (fdiv a b) = (fSign a != fSign b))) ∧
    ∀ n : Nat, isRounded (fOfNat n) (n : ℚ) ∧ fSign (fOfNat n) = false

/-- R9, R10: division by zero, the invalid operations, `x - x`, every operation with an infinite operand, and the canonical NaN:
a NaN operand gives it, and no primitive gives another NaN. -/
def Obligations.SpecialValuesAndCanonicalNaN : Prop :=
  (canonicalNaN = 0x7FC00000#32 ∧ fInf false = 0x7F800000#32 ∧ fInf true = 0xFF800000#32) ∧
  (∀ x z : F32, fIsNaN x = false → fMag x ≠ 0 → fMag z = 0 → fdiv x z = fInf (fSign x != fSign z)) ∧
    (∀ x z : F32, fMag x = 0 → fMag z = 0 → fdiv x z = canonicalNaN) ∧
    (∀ x : F32, fIsFinite x = true → fsub x x = 0x00000000#32) ∧
    (∀ (b : Bool) (x : F32), fIsFinite x = true →
      fadd (fInf b) x = fInf b ∧ fadd x (fInf b) = fInf b ∧ fsub (fInf b) x = fInf b ∧ fsub x (fInf b) = fInf (!b) ∧
        fdiv (fInf b) x = fInf (b != fSign x) ∧
        fdiv x (fInf b) = (if (fSign x != b) = true then 0x80000000#32 else 0x00000000#32)) ∧
    (∀ b : Bool, fadd (fInf b) (fInf b) = fInf b ∧ fadd (fInf b) (fInf (!b)) = canonicalNaN ∧
      fsub (fInf b) (fInf b) = canonicalNaN ∧ fsub (fInf b) (fInf (!b)) = fInf b) ∧
    (∀ b d : Bool, fdiv (fInf b) (fInf d) = canonicalNaN) ∧
    (∀ (b : Bool) (x : F32), fIsNaN x = false → fMag x ≠ 0 →
      fmul x (fInf b) = fInf (fSign x != b) ∧ fmul (fInf b) x = fInf (b != fSign x)) ∧
    (∀ (z : F32) (b : Bool), fMag z = 0 → fmul z (fInf b) = canonicalNaN ∧ fmul (fInf b) z = canonicalNaN) ∧
    (∀ x y : F32, fIsNaN x = true ∨ fIsNaN y = true →
      fadd x y = canonicalNaN ∧ fsub x y = canonicalNaN ∧ fmul x y = canonicalNaN ∧ fdiv x y = canonicalNaN) ∧
    ∀ x y : F32,
      (fIsNaN (fadd x y) = true → fadd x y = canonicalNaN) ∧ (fIsNaN (fsub x y) = true → fsub x y = canonicalNaN) ∧
        (fIsNaN (fmul x y) = true → fmul x y = canonicalNaN) ∧ (fIsNaN (fdiv x y) = true → fdiv x y = canonicalNaN) ∧
        (fIsNaN (ffloor x) = true → ffloor x = canonicalNaN)

/-- R13: the floor is the largest integral value not above its argument, exactly; zeros and infinities are returned as they
are, a NaN gives the canonical NaN. -/
def Obligations.FloorIsExact : Prop :=
  ∀ t : F32,
    (fIsFinite t = true → fIsFinite (ffloor t) = true ∧ f32Value (ffloor t) = ((⌊f32Value t⌋ : ℤ) : ℚ)) ∧
      (fMag t = 0 → ffloor t = t) ∧ (fIsInf t = true → ffloor t = t) ∧ (fIsNaN t = true → ffloor t = canonicalNaN)

/-- R12: comparisons follow the numbers the operands stand for, -inf below and +inf above the rest (so -0 equals +0), and are
false on a NaN. -/
def Obligations.ComparisonsAreNumerical : Prop :=
  (∀ a b : F32, fIsNaN a = false → fIsNaN b = false →
    (flt a b = true ↔ f32Extended a < f32Extended b) ∧ (fle a b = true ↔ f32Extended a ≤ f32Extended b) ∧
      (feq a b = true ↔ f32Extended a = f32Extended b)) ∧
    (∀ a b : F32, fIsNaN a = true ∨ fIsNaN b = true → flt a b = false ∧ fle a b = false ∧ feq a b = false) ∧
    feq 0x80000000#32 0x00000000#32 = true
end

