-- ==== Sys2Proof/Laws/State.lean ====
section
/-! SUPPORT. One lemma per field per named update of State, true by computation, so that no later proof unfolds a record
update; and what the reads of memory and operands make of the updates that touch neither. -/

namespace Sys2Proof.Machine

open Sys2Proof

/-! ### The oscillator registers written: nothing else changes. -/

@[simp] theorem State.setOsc_resetIn (s : State) (o : Oscillator) : (s.setOsc o).resetIn = s.resetIn := rfl
@[simp] theorem State.setOsc_epoch (s : State) (o : Oscillator) : (s.setOsc o).epoch = s.epoch := rfl
@[simp] theorem State.setOsc_bus (s : State) (o : Oscillator) : (s.setOsc o).bus = s.bus := rfl
@[simp] theorem State.setOsc_reply (s : State) (o : Oscillator) : (s.setOsc o).reply = s.reply := rfl
@[simp] theorem State.setOsc_seq (s : State) (o : Oscillator) : (s.setOsc o).seq = s.seq := rfl
@[simp] theorem State.setOsc_cmd (s : State) (o : Oscillator) : (s.setOsc o).cmd = s.cmd := rfl
@[simp] theorem State.setOsc_arg0 (s : State) (o : Oscillator) : (s.setOsc o).arg0 = s.arg0 := rfl
@[simp] theorem State.setOsc_arg1 (s : State) (o : Oscillator) : (s.setOsc o).arg1 = s.arg1 := rfl
@[simp] theorem State.setOsc_result (s : State) (o : Oscillator) : (s.setOsc o).result = s.result := rfl
@[simp] theorem State.setOsc_done (s : State) (o : Oscillator) : (s.setOsc o).done = s.done := rfl
@[simp] theorem State.setOsc_err (s : State) (o : Oscillator) : (s.setOsc o).err = s.err := rfl
@[simp] theorem State.setOsc_irqEn (s : State) (o : Oscillator) : (s.setOsc o).irqEn = s.irqEn := rfl
@[simp] theorem State.setOsc_errCause (s : State) (o : Oscillator) : (s.setOsc o).errCause = s.errCause := rfl
@[simp] theorem State.setOsc_errCmd (s : State) (o : Oscillator) : (s.setOsc o).errCmd = s.errCmd := rfl
@[simp] theorem State.setOsc_osc (s : State) (o : Oscillator) : (s.setOsc o).osc = o := rfl
@[simp] theorem State.setOsc_dlyBase (s : State) (o : Oscillator) : (s.setOsc o).dlyBase = s.dlyBase := rfl
@[simp] theorem State.setOsc_dlyLen (s : State) (o : Oscillator) : (s.setOsc o).dlyLen = s.dlyLen := rfl
@[simp] theorem State.setOsc_mod (s : State) (o : Oscillator) : (s.setOsc o).mod = s.mod := rfl
@[simp] theorem State.setOsc_ctl (s : State) (o : Oscillator) : (s.setOsc o).ctl = s.ctl := rfl
@[simp] theorem State.setOsc_prm (s : State) (o : Oscillator) : (s.setOsc o).prm = s.prm := rfl
@[simp] theorem State.setOsc_collab (s : State) (o : Oscillator) : (s.setOsc o).collab = s.collab := rfl
@[simp] theorem State.setOsc_mem (s : State) (o : Oscillator) : (s.setOsc o).mem = s.mem := rfl

/-! ### RESULT written: nothing else changes. -/

@[simp] theorem State.setResult_resetIn (s : State) (v : Word) : (s.setResult v).resetIn = s.resetIn := rfl
@[simp] theorem State.setResult_epoch (s : State) (v : Word) : (s.setResult v).epoch = s.epoch := rfl
@[simp] theorem State.setResult_bus (s : State) (v : Word) : (s.setResult v).bus = s.bus := rfl
@[simp] theorem State.setResult_reply (s : State) (v : Word) : (s.setResult v).reply = s.reply := rfl
@[simp] theorem State.setResult_seq (s : State) (v : Word) : (s.setResult v).seq = s.seq := rfl
@[simp] theorem State.setResult_cmd (s : State) (v : Word) : (s.setResult v).cmd = s.cmd := rfl
@[simp] theorem State.setResult_arg0 (s : State) (v : Word) : (s.setResult v).arg0 = s.arg0 := rfl
@[simp] theorem State.setResult_arg1 (s : State) (v : Word) : (s.setResult v).arg1 = s.arg1 := rfl
@[simp] theorem State.setResult_result (s : State) (v : Word) : (s.setResult v).result = v := rfl
@[simp] theorem State.setResult_done (s : State) (v : Word) : (s.setResult v).done = s.done := rfl
@[simp] theorem State.setResult_err (s : State) (v : Word) : (s.setResult v).err = s.err := rfl
@[simp] theorem State.setResult_irqEn (s : State) (v : Word) : (s.setResult v).irqEn = s.irqEn := rfl
@[simp] theorem State.setResult_errCause (s : State) (v : Word) : (s.setResult v).errCause = s.errCause := rfl
@[simp] theorem State.setResult_errCmd (s : State) (v : Word) : (s.setResult v).errCmd = s.errCmd := rfl
@[simp] theorem State.setResult_osc (s : State) (v : Word) : (s.setResult v).osc = s.osc := rfl
@[simp] theorem State.setResult_dlyBase (s : State) (v : Word) : (s.setResult v).dlyBase = s.dlyBase := rfl
@[simp] theorem State.setResult_dlyLen (s : State) (v : Word) : (s.setResult v).dlyLen = s.dlyLen := rfl
@[simp] theorem State.setResult_mod (s : State) (v : Word) : (s.setResult v).mod = s.mod := rfl
@[simp] theorem State.setResult_ctl (s : State) (v : Word) : (s.setResult v).ctl = s.ctl := rfl
@[simp] theorem State.setResult_prm (s : State) (v : Word) : (s.setResult v).prm = s.prm := rfl
@[simp] theorem State.setResult_collab (s : State) (v : Word) : (s.setResult v).collab = s.collab := rfl
@[simp] theorem State.setResult_mem (s : State) (v : Word) : (s.setResult v).mem = s.mem := rfl

/-! ### The module registers written: nothing else changes. -/

@[simp] theorem State.setMod_resetIn (s : State) (m : ModuleRegs) : (s.setMod m).resetIn = s.resetIn := rfl
@[simp] theorem State.setMod_epoch (s : State) (m : ModuleRegs) : (s.setMod m).epoch = s.epoch := rfl
@[simp] theorem State.setMod_bus (s : State) (m : ModuleRegs) : (s.setMod m).bus = s.bus := rfl
@[simp] theorem State.setMod_reply (s : State) (m : ModuleRegs) : (s.setMod m).reply = s.reply := rfl
@[simp] theorem State.setMod_seq (s : State) (m : ModuleRegs) : (s.setMod m).seq = s.seq := rfl
@[simp] theorem State.setMod_cmd (s : State) (m : ModuleRegs) : (s.setMod m).cmd = s.cmd := rfl
@[simp] theorem State.setMod_arg0 (s : State) (m : ModuleRegs) : (s.setMod m).arg0 = s.arg0 := rfl
@[simp] theorem State.setMod_arg1 (s : State) (m : ModuleRegs) : (s.setMod m).arg1 = s.arg1 := rfl
@[simp] theorem State.setMod_result (s : State) (m : ModuleRegs) : (s.setMod m).result = s.result := rfl
@[simp] theorem State.setMod_done (s : State) (m : ModuleRegs) : (s.setMod m).done = s.done := rfl
@[simp] theorem State.setMod_err (s : State) (m : ModuleRegs) : (s.setMod m).err = s.err := rfl
@[simp] theorem State.setMod_irqEn (s : State) (m : ModuleRegs) : (s.setMod m).irqEn = s.irqEn := rfl
@[simp] theorem State.setMod_errCause (s : State) (m : ModuleRegs) : (s.setMod m).errCause = s.errCause := rfl
@[simp] theorem State.setMod_errCmd (s : State) (m : ModuleRegs) : (s.setMod m).errCmd = s.errCmd := rfl
@[simp] theorem State.setMod_osc (s : State) (m : ModuleRegs) : (s.setMod m).osc = s.osc := rfl
@[simp] theorem State.setMod_dlyBase (s : State) (m : ModuleRegs) : (s.setMod m).dlyBase = s.dlyBase := rfl
@[simp] theorem State.setMod_dlyLen (s : State) (m : ModuleRegs) : (s.setMod m).dlyLen = s.dlyLen := rfl
@[simp] theorem State.setMod_mod (s : State) (m : ModuleRegs) : (s.setMod m).mod = m := rfl
@[simp] theorem State.setMod_ctl (s : State) (m : ModuleRegs) : (s.setMod m).ctl = s.ctl := rfl
@[simp] theorem State.setMod_prm (s : State) (m : ModuleRegs) : (s.setMod m).prm = s.prm := rfl
@[simp] theorem State.setMod_collab (s : State) (m : ModuleRegs) : (s.setMod m).collab = s.collab := rfl
@[simp] theorem State.setMod_mem (s : State) (m : ModuleRegs) : (s.setMod m).mem = s.mem := rfl

/-! ### The snapshot written: nothing else changes. -/

@[simp] theorem State.setPrm_resetIn (s : State) (p : Params) : (s.setPrm p).resetIn = s.resetIn := rfl
@[simp] theorem State.setPrm_epoch (s : State) (p : Params) : (s.setPrm p).epoch = s.epoch := rfl
@[simp] theorem State.setPrm_bus (s : State) (p : Params) : (s.setPrm p).bus = s.bus := rfl
@[simp] theorem State.setPrm_reply (s : State) (p : Params) : (s.setPrm p).reply = s.reply := rfl
@[simp] theorem State.setPrm_seq (s : State) (p : Params) : (s.setPrm p).seq = s.seq := rfl
@[simp] theorem State.setPrm_cmd (s : State) (p : Params) : (s.setPrm p).cmd = s.cmd := rfl
@[simp] theorem State.setPrm_arg0 (s : State) (p : Params) : (s.setPrm p).arg0 = s.arg0 := rfl
@[simp] theorem State.setPrm_arg1 (s : State) (p : Params) : (s.setPrm p).arg1 = s.arg1 := rfl
@[simp] theorem State.setPrm_result (s : State) (p : Params) : (s.setPrm p).result = s.result := rfl
@[simp] theorem State.setPrm_done (s : State) (p : Params) : (s.setPrm p).done = s.done := rfl
@[simp] theorem State.setPrm_err (s : State) (p : Params) : (s.setPrm p).err = s.err := rfl
@[simp] theorem State.setPrm_irqEn (s : State) (p : Params) : (s.setPrm p).irqEn = s.irqEn := rfl
@[simp] theorem State.setPrm_errCause (s : State) (p : Params) : (s.setPrm p).errCause = s.errCause := rfl
@[simp] theorem State.setPrm_errCmd (s : State) (p : Params) : (s.setPrm p).errCmd = s.errCmd := rfl
@[simp] theorem State.setPrm_osc (s : State) (p : Params) : (s.setPrm p).osc = s.osc := rfl
@[simp] theorem State.setPrm_dlyBase (s : State) (p : Params) : (s.setPrm p).dlyBase = s.dlyBase := rfl
@[simp] theorem State.setPrm_dlyLen (s : State) (p : Params) : (s.setPrm p).dlyLen = s.dlyLen := rfl
@[simp] theorem State.setPrm_mod (s : State) (p : Params) : (s.setPrm p).mod = s.mod := rfl
@[simp] theorem State.setPrm_ctl (s : State) (p : Params) : (s.setPrm p).ctl = s.ctl := rfl
@[simp] theorem State.setPrm_prm (s : State) (p : Params) : (s.setPrm p).prm = p := rfl
@[simp] theorem State.setPrm_collab (s : State) (p : Params) : (s.setPrm p).collab = s.collab := rfl
@[simp] theorem State.setPrm_mem (s : State) (p : Params) : (s.setPrm p).mem = s.mem := rfl

/-! ### The collaborator states written: nothing else changes. -/

@[simp] theorem State.setCollab_resetIn (s : State) (c : Collaborators) : (s.setCollab c).resetIn = s.resetIn := rfl
@[simp] theorem State.setCollab_epoch (s : State) (c : Collaborators) : (s.setCollab c).epoch = s.epoch := rfl
@[simp] theorem State.setCollab_bus (s : State) (c : Collaborators) : (s.setCollab c).bus = s.bus := rfl
@[simp] theorem State.setCollab_reply (s : State) (c : Collaborators) : (s.setCollab c).reply = s.reply := rfl
@[simp] theorem State.setCollab_seq (s : State) (c : Collaborators) : (s.setCollab c).seq = s.seq := rfl
@[simp] theorem State.setCollab_cmd (s : State) (c : Collaborators) : (s.setCollab c).cmd = s.cmd := rfl
@[simp] theorem State.setCollab_arg0 (s : State) (c : Collaborators) : (s.setCollab c).arg0 = s.arg0 := rfl
@[simp] theorem State.setCollab_arg1 (s : State) (c : Collaborators) : (s.setCollab c).arg1 = s.arg1 := rfl
@[simp] theorem State.setCollab_result (s : State) (c : Collaborators) : (s.setCollab c).result = s.result := rfl
@[simp] theorem State.setCollab_done (s : State) (c : Collaborators) : (s.setCollab c).done = s.done := rfl
@[simp] theorem State.setCollab_err (s : State) (c : Collaborators) : (s.setCollab c).err = s.err := rfl
@[simp] theorem State.setCollab_irqEn (s : State) (c : Collaborators) : (s.setCollab c).irqEn = s.irqEn := rfl
@[simp] theorem State.setCollab_errCause (s : State) (c : Collaborators) : (s.setCollab c).errCause = s.errCause := rfl
@[simp] theorem State.setCollab_errCmd (s : State) (c : Collaborators) : (s.setCollab c).errCmd = s.errCmd := rfl
@[simp] theorem State.setCollab_osc (s : State) (c : Collaborators) : (s.setCollab c).osc = s.osc := rfl
@[simp] theorem State.setCollab_dlyBase (s : State) (c : Collaborators) : (s.setCollab c).dlyBase = s.dlyBase := rfl
@[simp] theorem State.setCollab_dlyLen (s : State) (c : Collaborators) : (s.setCollab c).dlyLen = s.dlyLen := rfl
@[simp] theorem State.setCollab_mod (s : State) (c : Collaborators) : (s.setCollab c).mod = s.mod := rfl
@[simp] theorem State.setCollab_ctl (s : State) (c : Collaborators) : (s.setCollab c).ctl = s.ctl := rfl
@[simp] theorem State.setCollab_prm (s : State) (c : Collaborators) : (s.setCollab c).prm = s.prm := rfl
@[simp] theorem State.setCollab_collab (s : State) (c : Collaborators) : (s.setCollab c).collab = some c := rfl
@[simp] theorem State.setCollab_mem (s : State) (c : Collaborators) : (s.setCollab c).mem = s.mem := rfl

/-! ### The waiting accesses replaced: nothing else changes. -/

@[simp] theorem State.setBus_resetIn (s : State) (q : List BusAccess) : (s.setBus q).resetIn = s.resetIn := rfl
@[simp] theorem State.setBus_epoch (s : State) (q : List BusAccess) : (s.setBus q).epoch = s.epoch := rfl
@[simp] theorem State.setBus_bus (s : State) (q : List BusAccess) : (s.setBus q).bus = q := rfl
@[simp] theorem State.setBus_reply (s : State) (q : List BusAccess) : (s.setBus q).reply = s.reply := rfl
@[simp] theorem State.setBus_seq (s : State) (q : List BusAccess) : (s.setBus q).seq = s.seq := rfl
@[simp] theorem State.setBus_cmd (s : State) (q : List BusAccess) : (s.setBus q).cmd = s.cmd := rfl
@[simp] theorem State.setBus_arg0 (s : State) (q : List BusAccess) : (s.setBus q).arg0 = s.arg0 := rfl
@[simp] theorem State.setBus_arg1 (s : State) (q : List BusAccess) : (s.setBus q).arg1 = s.arg1 := rfl
@[simp] theorem State.setBus_result (s : State) (q : List BusAccess) : (s.setBus q).result = s.result := rfl
@[simp] theorem State.setBus_done (s : State) (q : List BusAccess) : (s.setBus q).done = s.done := rfl
@[simp] theorem State.setBus_err (s : State) (q : List BusAccess) : (s.setBus q).err = s.err := rfl
@[simp] theorem State.setBus_irqEn (s : State) (q : List BusAccess) : (s.setBus q).irqEn = s.irqEn := rfl
@[simp] theorem State.setBus_errCause (s : State) (q : List BusAccess) : (s.setBus q).errCause = s.errCause := rfl
@[simp] theorem State.setBus_errCmd (s : State) (q : List BusAccess) : (s.setBus q).errCmd = s.errCmd := rfl
@[simp] theorem State.setBus_osc (s : State) (q : List BusAccess) : (s.setBus q).osc = s.osc := rfl
@[simp] theorem State.setBus_dlyBase (s : State) (q : List BusAccess) : (s.setBus q).dlyBase = s.dlyBase := rfl
@[simp] theorem State.setBus_dlyLen (s : State) (q : List BusAccess) : (s.setBus q).dlyLen = s.dlyLen := rfl
@[simp] theorem State.setBus_mod (s : State) (q : List BusAccess) : (s.setBus q).mod = s.mod := rfl
@[simp] theorem State.setBus_ctl (s : State) (q : List BusAccess) : (s.setBus q).ctl = s.ctl := rfl
@[simp] theorem State.setBus_prm (s : State) (q : List BusAccess) : (s.setBus q).prm = s.prm := rfl
@[simp] theorem State.setBus_collab (s : State) (q : List BusAccess) : (s.setBus q).collab = s.collab := rfl
@[simp] theorem State.setBus_mem (s : State) (q : List BusAccess) : (s.setBus q).mem = s.mem := rfl

/-! ### Responses given: nothing else changes. -/

@[simp] theorem State.setReply_resetIn (s : State) (rs : List BusReply) : (s.setReply rs).resetIn = s.resetIn := rfl
@[simp] theorem State.setReply_epoch (s : State) (rs : List BusReply) : (s.setReply rs).epoch = s.epoch := rfl
@[simp] theorem State.setReply_bus (s : State) (rs : List BusReply) : (s.setReply rs).bus = s.bus := rfl
@[simp] theorem State.setReply_reply (s : State) (rs : List BusReply) : (s.setReply rs).reply = rs := rfl
@[simp] theorem State.setReply_seq (s : State) (rs : List BusReply) : (s.setReply rs).seq = s.seq := rfl
@[simp] theorem State.setReply_cmd (s : State) (rs : List BusReply) : (s.setReply rs).cmd = s.cmd := rfl
@[simp] theorem State.setReply_arg0 (s : State) (rs : List BusReply) : (s.setReply rs).arg0 = s.arg0 := rfl
@[simp] theorem State.setReply_arg1 (s : State) (rs : List BusReply) : (s.setReply rs).arg1 = s.arg1 := rfl
@[simp] theorem State.setReply_result (s : State) (rs : List BusReply) : (s.setReply rs).result = s.result := rfl
@[simp] theorem State.setReply_done (s : State) (rs : List BusReply) : (s.setReply rs).done = s.done := rfl
@[simp] theorem State.setReply_err (s : State) (rs : List BusReply) : (s.setReply rs).err = s.err := rfl
@[simp] theorem State.setReply_irqEn (s : State) (rs : List BusReply) : (s.setReply rs).irqEn = s.irqEn := rfl
@[simp] theorem State.setReply_errCause (s : State) (rs : List BusReply) : (s.setReply rs).errCause = s.errCause := rfl
@[simp] theorem State.setReply_errCmd (s : State) (rs : List BusReply) : (s.setReply rs).errCmd = s.errCmd := rfl
@[simp] theorem State.setReply_osc (s : State) (rs : List BusReply) : (s.setReply rs).osc = s.osc := rfl
@[simp] theorem State.setReply_dlyBase (s : State) (rs : List BusReply) : (s.setReply rs).dlyBase = s.dlyBase := rfl
@[simp] theorem State.setReply_dlyLen (s : State) (rs : List BusReply) : (s.setReply rs).dlyLen = s.dlyLen := rfl
@[simp] theorem State.setReply_mod (s : State) (rs : List BusReply) : (s.setReply rs).mod = s.mod := rfl
@[simp] theorem State.setReply_ctl (s : State) (rs : List BusReply) : (s.setReply rs).ctl = s.ctl := rfl
@[simp] theorem State.setReply_prm (s : State) (rs : List BusReply) : (s.setReply rs).prm = s.prm := rfl
@[simp] theorem State.setReply_collab (s : State) (rs : List BusReply) : (s.setReply rs).collab = s.collab := rfl
@[simp] theorem State.setReply_mem (s : State) (rs : List BusReply) : (s.setReply rs).mem = s.mem := rfl

/-! ### Acceptance (R31, R53). -/

@[simp] theorem State.accept_resetIn (s : State) (w : Word) : (s.accept w).resetIn = s.resetIn := rfl
@[simp] theorem State.accept_epoch (s : State) (w : Word) : (s.accept w).epoch = s.epoch := rfl
@[simp] theorem State.accept_bus (s : State) (w : Word) : (s.accept w).bus = s.bus := rfl
@[simp] theorem State.accept_reply (s : State) (w : Word) : (s.accept w).reply = s.reply := rfl
@[simp] theorem State.accept_seq (s : State) (w : Word) : (s.accept w).seq = some { word := w, arg0 := s.arg0, arg1 := s.arg1 } := rfl
@[simp] theorem State.accept_cmd (s : State) (w : Word) : (s.accept w).cmd = w := rfl
@[simp] theorem State.accept_arg0 (s : State) (w : Word) : (s.accept w).arg0 = s.arg0 := rfl
@[simp] theorem State.accept_arg1 (s : State) (w : Word) : (s.accept w).arg1 = s.arg1 := rfl
@[simp] theorem State.accept_result (s : State) (w : Word) : (s.accept w).result = s.result := rfl
@[simp] theorem State.accept_done (s : State) (w : Word) : (s.accept w).done = s.done := rfl
@[simp] theorem State.accept_err (s : State) (w : Word) : (s.accept w).err = s.err := rfl
@[simp] theorem State.accept_irqEn (s : State) (w : Word) : (s.accept w).irqEn = s.irqEn := rfl
@[simp] theorem State.accept_errCause (s : State) (w : Word) : (s.accept w).errCause = s.errCause := rfl
@[simp] theorem State.accept_errCmd (s : State) (w : Word) : (s.accept w).errCmd = s.errCmd := rfl
@[simp] theorem State.accept_osc (s : State) (w : Word) : (s.accept w).osc = s.osc := rfl
@[simp] theorem State.accept_dlyBase (s : State) (w : Word) : (s.accept w).dlyBase = s.dlyBase := rfl
@[simp] theorem State.accept_dlyLen (s : State) (w : Word) : (s.accept w).dlyLen = s.dlyLen := rfl
@[simp] theorem State.accept_mod (s : State) (w : Word) : (s.accept w).mod = s.mod := rfl
@[simp] theorem State.accept_ctl (s : State) (w : Word) : (s.accept w).ctl = s.ctl := rfl
@[simp] theorem State.accept_prm (s : State) (w : Word) : (s.accept w).prm = s.prm := rfl
@[simp] theorem State.accept_collab (s : State) (w : Word) : (s.accept w).collab = s.collab := rfl
@[simp] theorem State.accept_mem (s : State) (w : Word) : (s.accept w).mem = s.mem := rfl

/-! ### Completion (R168). -/

@[simp] theorem State.complete_resetIn (s : State) : (s.complete).resetIn = s.resetIn := rfl
@[simp] theorem State.complete_epoch (s : State) : (s.complete).epoch = s.epoch := rfl
@[simp] theorem State.complete_bus (s : State) : (s.complete).bus = s.bus := rfl
@[simp] theorem State.complete_reply (s : State) : (s.complete).reply = s.reply := rfl
@[simp] theorem State.complete_seq (s : State) : (s.complete).seq = none := rfl
@[simp] theorem State.complete_cmd (s : State) : (s.complete).cmd = s.cmd := rfl
@[simp] theorem State.complete_arg0 (s : State) : (s.complete).arg0 = s.arg0 := rfl
@[simp] theorem State.complete_arg1 (s : State) : (s.complete).arg1 = s.arg1 := rfl
@[simp] theorem State.complete_result (s : State) : (s.complete).result = s.result := rfl
@[simp] theorem State.complete_done (s : State) : (s.complete).done = true := rfl
@[simp] theorem State.complete_err (s : State) : (s.complete).err = s.err := rfl
@[simp] theorem State.complete_irqEn (s : State) : (s.complete).irqEn = s.irqEn := rfl
@[simp] theorem State.complete_errCause (s : State) : (s.complete).errCause = s.errCause := rfl
@[simp] theorem State.complete_errCmd (s : State) : (s.complete).errCmd = s.errCmd := rfl
@[simp] theorem State.complete_osc (s : State) : (s.complete).osc = s.osc := rfl
@[simp] theorem State.complete_dlyBase (s : State) : (s.complete).dlyBase = s.dlyBase := rfl
@[simp] theorem State.complete_dlyLen (s : State) : (s.complete).dlyLen = s.dlyLen := rfl
@[simp] theorem State.complete_mod (s : State) : (s.complete).mod = s.mod := rfl
@[simp] theorem State.complete_ctl (s : State) : (s.complete).ctl = s.ctl := rfl
@[simp] theorem State.complete_prm (s : State) : (s.complete).prm = s.prm := rfl
@[simp] theorem State.complete_collab (s : State) : (s.complete).collab = s.collab := rfl
@[simp] theorem State.complete_mem (s : State) : (s.complete).mem = s.mem := rfl

/-! ### Fault recording (R172). -/

@[simp] theorem State.raiseFault_resetIn (s : State) (c : Cause) : (s.raiseFault c).resetIn = s.resetIn := rfl
@[simp] theorem State.raiseFault_epoch (s : State) (c : Cause) : (s.raiseFault c).epoch = s.epoch := rfl
@[simp] theorem State.raiseFault_bus (s : State) (c : Cause) : (s.raiseFault c).bus = s.bus := rfl
@[simp] theorem State.raiseFault_reply (s : State) (c : Cause) : (s.raiseFault c).reply = s.reply := rfl
@[simp] theorem State.raiseFault_seq (s : State) (c : Cause) : (s.raiseFault c).seq = none := rfl
@[simp] theorem State.raiseFault_cmd (s : State) (c : Cause) : (s.raiseFault c).cmd = s.cmd := rfl
@[simp] theorem State.raiseFault_arg0 (s : State) (c : Cause) : (s.raiseFault c).arg0 = s.arg0 := rfl
@[simp] theorem State.raiseFault_arg1 (s : State) (c : Cause) : (s.raiseFault c).arg1 = s.arg1 := rfl
@[simp] theorem State.raiseFault_result (s : State) (c : Cause) : (s.raiseFault c).result = s.result := rfl
@[simp] theorem State.raiseFault_done (s : State) (c : Cause) : (s.raiseFault c).done = s.done := rfl
@[simp] theorem State.raiseFault_err (s : State) (c : Cause) : (s.raiseFault c).err = true := rfl
@[simp] theorem State.raiseFault_irqEn (s : State) (c : Cause) : (s.raiseFault c).irqEn = s.irqEn := rfl
@[simp] theorem State.raiseFault_errCause (s : State) (c : Cause) : (s.raiseFault c).errCause = c := rfl
@[simp] theorem State.raiseFault_errCmd (s : State) (c : Cause) : (s.raiseFault c).errCmd = s.operands.word := rfl
@[simp] theorem State.raiseFault_osc (s : State) (c : Cause) : (s.raiseFault c).osc = s.osc := rfl
@[simp] theorem State.raiseFault_dlyBase (s : State) (c : Cause) : (s.raiseFault c).dlyBase = s.dlyBase := rfl
@[simp] theorem State.raiseFault_dlyLen (s : State) (c : Cause) : (s.raiseFault c).dlyLen = s.dlyLen := rfl
@[simp] theorem State.raiseFault_mod (s : State) (c : Cause) : (s.raiseFault c).mod = s.mod := rfl
@[simp] theorem State.raiseFault_ctl (s : State) (c : Cause) : (s.raiseFault c).ctl = s.ctl := rfl
@[simp] theorem State.raiseFault_prm (s : State) (c : Cause) : (s.raiseFault c).prm = s.prm := rfl
@[simp] theorem State.raiseFault_collab (s : State) (c : Cause) : (s.raiseFault c).collab = s.collab := rfl
@[simp] theorem State.raiseFault_mem (s : State) (c : Cause) : (s.raiseFault c).mem = s.mem := rfl

/-! ### A STATUS write (R30). -/

@[simp] theorem State.writeStatus_resetIn (s : State) (v : Word) : (s.writeStatus v).resetIn = s.resetIn := rfl
@[simp] theorem State.writeStatus_epoch (s : State) (v : Word) : (s.writeStatus v).epoch = s.epoch := rfl
@[simp] theorem State.writeStatus_bus (s : State) (v : Word) : (s.writeStatus v).bus = s.bus := rfl
@[simp] theorem State.writeStatus_reply (s : State) (v : Word) : (s.writeStatus v).reply = s.reply := rfl
@[simp] theorem State.writeStatus_seq (s : State) (v : Word) : (s.writeStatus v).seq = s.seq := rfl
@[simp] theorem State.writeStatus_cmd (s : State) (v : Word) : (s.writeStatus v).cmd = s.cmd := rfl
@[simp] theorem State.writeStatus_arg0 (s : State) (v : Word) : (s.writeStatus v).arg0 = s.arg0 := rfl
@[simp] theorem State.writeStatus_arg1 (s : State) (v : Word) : (s.writeStatus v).arg1 = s.arg1 := rfl
@[simp] theorem State.writeStatus_result (s : State) (v : Word) : (s.writeStatus v).result = s.result := rfl
@[simp] theorem State.writeStatus_done (s : State) (v : Word) : (s.writeStatus v).done = (s.done && !v.getLsbD 1) := rfl
@[simp] theorem State.writeStatus_err (s : State) (v : Word) : (s.writeStatus v).err = (s.err && !v.getLsbD 2) := rfl
@[simp] theorem State.writeStatus_irqEn (s : State) (v : Word) : (s.writeStatus v).irqEn = s.irqEn := rfl
@[simp] theorem State.writeStatus_errCause (s : State) (v : Word) : (s.writeStatus v).errCause = s.errCause := rfl
@[simp] theorem State.writeStatus_errCmd (s : State) (v : Word) : (s.writeStatus v).errCmd = s.errCmd := rfl
@[simp] theorem State.writeStatus_osc (s : State) (v : Word) : (s.writeStatus v).osc = s.osc := rfl
@[simp] theorem State.writeStatus_dlyBase (s : State) (v : Word) : (s.writeStatus v).dlyBase = s.dlyBase := rfl
@[simp] theorem State.writeStatus_dlyLen (s : State) (v : Word) : (s.writeStatus v).dlyLen = s.dlyLen := rfl
@[simp] theorem State.writeStatus_mod (s : State) (v : Word) : (s.writeStatus v).mod = s.mod := rfl
@[simp] theorem State.writeStatus_ctl (s : State) (v : Word) : (s.writeStatus v).ctl = s.ctl := rfl
@[simp] theorem State.writeStatus_prm (s : State) (v : Word) : (s.writeStatus v).prm = s.prm := rfl
@[simp] theorem State.writeStatus_collab (s : State) (v : Word) : (s.writeStatus v).collab = s.collab := rfl
@[simp] theorem State.writeStatus_mem (s : State) (v : Word) : (s.writeStatus v).mem = s.mem := rfl

/-! ### A word written: only memory changes. -/

@[simp] theorem State.writeWord_resetIn (s : State) (a : Nat) (v : Word) : (s.writeWord a v).resetIn = s.resetIn := rfl
@[simp] theorem State.writeWord_epoch (s : State) (a : Nat) (v : Word) : (s.writeWord a v).epoch = s.epoch := rfl
@[simp] theorem State.writeWord_bus (s : State) (a : Nat) (v : Word) : (s.writeWord a v).bus = s.bus := rfl
@[simp] theorem State.writeWord_reply (s : State) (a : Nat) (v : Word) : (s.writeWord a v).reply = s.reply := rfl
@[simp] theorem State.writeWord_seq (s : State) (a : Nat) (v : Word) : (s.writeWord a v).seq = s.seq := rfl
@[simp] theorem State.writeWord_cmd (s : State) (a : Nat) (v : Word) : (s.writeWord a v).cmd = s.cmd := rfl
@[simp] theorem State.writeWord_arg0 (s : State) (a : Nat) (v : Word) : (s.writeWord a v).arg0 = s.arg0 := rfl
@[simp] theorem State.writeWord_arg1 (s : State) (a : Nat) (v : Word) : (s.writeWord a v).arg1 = s.arg1 := rfl
@[simp] theorem State.writeWord_result (s : State) (a : Nat) (v : Word) : (s.writeWord a v).result = s.result := rfl
@[simp] theorem State.writeWord_done (s : State) (a : Nat) (v : Word) : (s.writeWord a v).done = s.done := rfl
@[simp] theorem State.writeWord_err (s : State) (a : Nat) (v : Word) : (s.writeWord a v).err = s.err := rfl
@[simp] theorem State.writeWord_irqEn (s : State) (a : Nat) (v : Word) : (s.writeWord a v).irqEn = s.irqEn := rfl
@[simp] theorem State.writeWord_errCause (s : State) (a : Nat) (v : Word) : (s.writeWord a v).errCause = s.errCause := rfl
@[simp] theorem State.writeWord_errCmd (s : State) (a : Nat) (v : Word) : (s.writeWord a v).errCmd = s.errCmd := rfl
@[simp] theorem State.writeWord_osc (s : State) (a : Nat) (v : Word) : (s.writeWord a v).osc = s.osc := rfl
@[simp] theorem State.writeWord_dlyBase (s : State) (a : Nat) (v : Word) : (s.writeWord a v).dlyBase = s.dlyBase := rfl
@[simp] theorem State.writeWord_dlyLen (s : State) (a : Nat) (v : Word) : (s.writeWord a v).dlyLen = s.dlyLen := rfl
@[simp] theorem State.writeWord_mod (s : State) (a : Nat) (v : Word) : (s.writeWord a v).mod = s.mod := rfl
@[simp] theorem State.writeWord_ctl (s : State) (a : Nat) (v : Word) : (s.writeWord a v).ctl = s.ctl := rfl
@[simp] theorem State.writeWord_prm (s : State) (a : Nat) (v : Word) : (s.writeWord a v).prm = s.prm := rfl
@[simp] theorem State.writeWord_collab (s : State) (a : Nat) (v : Word) : (s.writeWord a v).collab = s.collab := rfl
@[simp] theorem State.writeWord_mem (s : State) (a : Nat) (v : Word) : (s.writeWord a v).mem = Memory.storeWord s.mem a v := rfl

/-! ### A complex element written: only memory changes. -/

@[simp] theorem State.writeComplex_resetIn (s : State) (a : Nat) (z : Complex32) : (s.writeComplex a z).resetIn = s.resetIn := rfl
@[simp] theorem State.writeComplex_epoch (s : State) (a : Nat) (z : Complex32) : (s.writeComplex a z).epoch = s.epoch := rfl
@[simp] theorem State.writeComplex_bus (s : State) (a : Nat) (z : Complex32) : (s.writeComplex a z).bus = s.bus := rfl
@[simp] theorem State.writeComplex_reply (s : State) (a : Nat) (z : Complex32) : (s.writeComplex a z).reply = s.reply := rfl
@[simp] theorem State.writeComplex_seq (s : State) (a : Nat) (z : Complex32) : (s.writeComplex a z).seq = s.seq := rfl
@[simp] theorem State.writeComplex_cmd (s : State) (a : Nat) (z : Complex32) : (s.writeComplex a z).cmd = s.cmd := rfl
@[simp] theorem State.writeComplex_arg0 (s : State) (a : Nat) (z : Complex32) : (s.writeComplex a z).arg0 = s.arg0 := rfl
@[simp] theorem State.writeComplex_arg1 (s : State) (a : Nat) (z : Complex32) : (s.writeComplex a z).arg1 = s.arg1 := rfl
@[simp] theorem State.writeComplex_result (s : State) (a : Nat) (z : Complex32) : (s.writeComplex a z).result = s.result := rfl
@[simp] theorem State.writeComplex_done (s : State) (a : Nat) (z : Complex32) : (s.writeComplex a z).done = s.done := rfl
@[simp] theorem State.writeComplex_err (s : State) (a : Nat) (z : Complex32) : (s.writeComplex a z).err = s.err := rfl
@[simp] theorem State.writeComplex_irqEn (s : State) (a : Nat) (z : Complex32) : (s.writeComplex a z).irqEn = s.irqEn := rfl
@[simp] theorem State.writeComplex_errCause (s : State) (a : Nat) (z : Complex32) : (s.writeComplex a z).errCause = s.errCause := rfl
@[simp] theorem State.writeComplex_errCmd (s : State) (a : Nat) (z : Complex32) : (s.writeComplex a z).errCmd = s.errCmd := rfl
@[simp] theorem State.writeComplex_osc (s : State) (a : Nat) (z : Complex32) : (s.writeComplex a z).osc = s.osc := rfl
@[simp] theorem State.writeComplex_dlyBase (s : State) (a : Nat) (z : Complex32) : (s.writeComplex a z).dlyBase = s.dlyBase := rfl
@[simp] theorem State.writeComplex_dlyLen (s : State) (a : Nat) (z : Complex32) : (s.writeComplex a z).dlyLen = s.dlyLen := rfl
@[simp] theorem State.writeComplex_mod (s : State) (a : Nat) (z : Complex32) : (s.writeComplex a z).mod = s.mod := rfl
@[simp] theorem State.writeComplex_ctl (s : State) (a : Nat) (z : Complex32) : (s.writeComplex a z).ctl = s.ctl := rfl
@[simp] theorem State.writeComplex_prm (s : State) (a : Nat) (z : Complex32) : (s.writeComplex a z).prm = s.prm := rfl
@[simp] theorem State.writeComplex_collab (s : State) (a : Nat) (z : Complex32) : (s.writeComplex a z).collab = s.collab := rfl
@[simp] theorem State.writeComplex_mem (s : State) (a : Nat) (z : Complex32) : (s.writeComplex a z).mem = Memory.storeWord (Memory.storeWord s.mem a z.re) (a + 4) z.im := rfl

/-! ### Reads under updates that do not touch what they read -/

@[simp] theorem State.setOsc_readByte (s : State) (o : Oscillator) (x : Nat) : (s.setOsc o).readByte x = s.readByte x := rfl
@[simp] theorem State.setOsc_readWord (s : State) (o : Oscillator) (x : Nat) : (s.setOsc o).readWord x = s.readWord x := rfl
@[simp] theorem State.setOsc_readComplex (s : State) (o : Oscillator) (x : Nat) : (s.setOsc o).readComplex x = s.readComplex x := rfl
@[simp] theorem State.setOsc_operands (s : State) (o : Oscillator) : (s.setOsc o).operands = s.operands := rfl
@[simp] theorem State.setOsc_busy (s : State) (o : Oscillator) : (s.setOsc o).busy = s.busy := rfl
@[simp] theorem State.setOsc_prepared (s : State) (o : Oscillator) : (s.setOsc o).prepared = s.prepared := rfl
@[simp] theorem State.setResult_readByte (s : State) (v : Word) (x : Nat) : (s.setResult v).readByte x = s.readByte x := rfl
@[simp] theorem State.setResult_readWord (s : State) (v : Word) (x : Nat) : (s.setResult v).readWord x = s.readWord x := rfl
@[simp] theorem State.setResult_readComplex (s : State) (v : Word) (x : Nat) : (s.setResult v).readComplex x = s.readComplex x := rfl
@[simp] theorem State.setResult_operands (s : State) (v : Word) : (s.setResult v).operands = s.operands := rfl
@[simp] theorem State.setResult_busy (s : State) (v : Word) : (s.setResult v).busy = s.busy := rfl
@[simp] theorem State.setResult_prepared (s : State) (v : Word) : (s.setResult v).prepared = s.prepared := rfl
@[simp] theorem State.setMod_readByte (s : State) (m : ModuleRegs) (x : Nat) : (s.setMod m).readByte x = s.readByte x := rfl
@[simp] theorem State.setMod_readWord (s : State) (m : ModuleRegs) (x : Nat) : (s.setMod m).readWord x = s.readWord x := rfl
@[simp] theorem State.setMod_readComplex (s : State) (m : ModuleRegs) (x : Nat) : (s.setMod m).readComplex x = s.readComplex x := rfl
@[simp] theorem State.setMod_operands (s : State) (m : ModuleRegs) : (s.setMod m).operands = s.operands := rfl
@[simp] theorem State.setMod_busy (s : State) (m : ModuleRegs) : (s.setMod m).busy = s.busy := rfl
@[simp] theorem State.setMod_prepared (s : State) (m : ModuleRegs) : (s.setMod m).prepared = s.prepared := rfl
@[simp] theorem State.setPrm_readByte (s : State) (p : Params) (x : Nat) : (s.setPrm p).readByte x = s.readByte x := rfl
@[simp] theorem State.setPrm_readWord (s : State) (p : Params) (x : Nat) : (s.setPrm p).readWord x = s.readWord x := rfl
@[simp] theorem State.setPrm_readComplex (s : State) (p : Params) (x : Nat) : (s.setPrm p).readComplex x = s.readComplex x := rfl
@[simp] theorem State.setPrm_operands (s : State) (p : Params) : (s.setPrm p).operands = s.operands := rfl
@[simp] theorem State.setPrm_busy (s : State) (p : Params) : (s.setPrm p).busy = s.busy := rfl
@[simp] theorem State.setPrm_prepared (s : State) (p : Params) : (s.setPrm p).prepared = s.prepared := rfl
@[simp] theorem State.setCollab_readByte (s : State) (c : Collaborators) (x : Nat) : (s.setCollab c).readByte x = s.readByte x := rfl
@[simp] theorem State.setCollab_readWord (s : State) (c : Collaborators) (x : Nat) : (s.setCollab c).readWord x = s.readWord x := rfl
@[simp] theorem State.setCollab_readComplex (s : State) (c : Collaborators) (x : Nat) : (s.setCollab c).readComplex x = s.readComplex x := rfl
@[simp] theorem State.setCollab_operands (s : State) (c : Collaborators) : (s.setCollab c).operands = s.operands := rfl
@[simp] theorem State.setCollab_busy (s : State) (c : Collaborators) : (s.setCollab c).busy = s.busy := rfl
@[simp] theorem State.setBus_readByte (s : State) (q : List BusAccess) (x : Nat) : (s.setBus q).readByte x = s.readByte x := rfl
@[simp] theorem State.setBus_readWord (s : State) (q : List BusAccess) (x : Nat) : (s.setBus q).readWord x = s.readWord x := rfl
@[simp] theorem State.setBus_readComplex (s : State) (q : List BusAccess) (x : Nat) : (s.setBus q).readComplex x = s.readComplex x := rfl
@[simp] theorem State.setBus_operands (s : State) (q : List BusAccess) : (s.setBus q).operands = s.operands := rfl
@[simp] theorem State.setBus_busy (s : State) (q : List BusAccess) : (s.setBus q).busy = s.busy := rfl
@[simp] theorem State.setBus_prepared (s : State) (q : List BusAccess) : (s.setBus q).prepared = s.prepared := rfl
@[simp] theorem State.setReply_readByte (s : State) (rs : List BusReply) (x : Nat) : (s.setReply rs).readByte x = s.readByte x := rfl
@[simp] theorem State.setReply_readWord (s : State) (rs : List BusReply) (x : Nat) : (s.setReply rs).readWord x = s.readWord x := rfl
@[simp] theorem State.setReply_readComplex (s : State) (rs : List BusReply) (x : Nat) : (s.setReply rs).readComplex x = s.readComplex x := rfl
@[simp] theorem State.setReply_operands (s : State) (rs : List BusReply) : (s.setReply rs).operands = s.operands := rfl
@[simp] theorem State.setReply_busy (s : State) (rs : List BusReply) : (s.setReply rs).busy = s.busy := rfl
@[simp] theorem State.setReply_prepared (s : State) (rs : List BusReply) : (s.setReply rs).prepared = s.prepared := rfl
@[simp] theorem State.accept_readByte (s : State) (w : Word) (x : Nat) : (s.accept w).readByte x = s.readByte x := rfl
@[simp] theorem State.accept_readWord (s : State) (w : Word) (x : Nat) : (s.accept w).readWord x = s.readWord x := rfl
@[simp] theorem State.accept_readComplex (s : State) (w : Word) (x : Nat) : (s.accept w).readComplex x = s.readComplex x := rfl
@[simp] theorem State.accept_prepared (s : State) (w : Word) : (s.accept w).prepared = s.prepared := rfl
@[simp] theorem State.complete_readByte (s : State) (x : Nat) : (s.complete).readByte x = s.readByte x := rfl
@[simp] theorem State.complete_readWord (s : State) (x : Nat) : (s.complete).readWord x = s.readWord x := rfl
@[simp] theorem State.complete_readComplex (s : State) (x : Nat) : (s.complete).readComplex x = s.readComplex x := rfl
@[simp] theorem State.complete_prepared (s : State) : (s.complete).prepared = s.prepared := rfl
@[simp] theorem State.raiseFault_readByte (s : State) (c : Cause) (x : Nat) : (s.raiseFault c).readByte x = s.readByte x := rfl
@[simp] theorem State.raiseFault_readWord (s : State) (c : Cause) (x : Nat) : (s.raiseFault c).readWord x = s.readWord x := rfl
@[simp] theorem State.raiseFault_readComplex (s : State) (c : Cause) (x : Nat) : (s.raiseFault c).readComplex x = s.readComplex x := rfl
@[simp] theorem State.raiseFault_prepared (s : State) (c : Cause) : (s.raiseFault c).prepared = s.prepared := rfl
@[simp] theorem State.writeStatus_readByte (s : State) (v : Word) (x : Nat) : (s.writeStatus v).readByte x = s.readByte x := rfl
@[simp] theorem State.writeStatus_readWord (s : State) (v : Word) (x : Nat) : (s.writeStatus v).readWord x = s.readWord x := rfl
@[simp] theorem State.writeStatus_readComplex (s : State) (v : Word) (x : Nat) : (s.writeStatus v).readComplex x = s.readComplex x := rfl
@[simp] theorem State.writeStatus_operands (s : State) (v : Word) : (s.writeStatus v).operands = s.operands := rfl
@[simp] theorem State.writeStatus_busy (s : State) (v : Word) : (s.writeStatus v).busy = s.busy := rfl
@[simp] theorem State.writeStatus_prepared (s : State) (v : Word) : (s.writeStatus v).prepared = s.prepared := rfl
@[simp] theorem State.writeWord_operands (s : State) (a : Nat) (v : Word) : (s.writeWord a v).operands = s.operands := rfl
@[simp] theorem State.writeWord_busy (s : State) (a : Nat) (v : Word) : (s.writeWord a v).busy = s.busy := rfl
@[simp] theorem State.writeWord_prepared (s : State) (a : Nat) (v : Word) : (s.writeWord a v).prepared = s.prepared := rfl
@[simp] theorem State.writeComplex_operands (s : State) (a : Nat) (z : Complex32) : (s.writeComplex a z).operands = s.operands := rfl
@[simp] theorem State.writeComplex_busy (s : State) (a : Nat) (z : Complex32) : (s.writeComplex a z).busy = s.busy := rfl
@[simp] theorem State.writeComplex_prepared (s : State) (a : Nat) (z : Complex32) : (s.writeComplex a z).prepared = s.prepared := rfl

@[simp] theorem State.accept_operands (s : State) (w : Word) :
    (s.accept w).operands = { word := w, arg0 := s.arg0, arg1 := s.arg1 } := rfl

/-- While BUSY the operands are the latched ones (R53). -/
theorem State.operands_of_busy {s : State} {l : Latched} (h : s.seq = some l) : s.operands = l := by
  simp [State.operands, h]

@[simp] theorem State.complete_busy (s : State) : s.complete.busy = false := rfl
@[simp] theorem State.raiseFault_busy (s : State) (c : Cause) : (s.raiseFault c).busy = false := rfl
@[simp] theorem State.accept_busy (s : State) (w : Word) : (s.accept w).busy = true := rfl
@[simp] theorem State.setCollab_prepared (s : State) (c : Collaborators) : (s.setCollab c).prepared = true := rfl

end Sys2Proof.Machine
end

