-- ==== Sys2Proof/Laws/Memory.lean ====
section
/-! SUPPORT. The laws of memory: read after write, frames, and that every write keeps the canonical form. -/

namespace Sys2Proof.Machine

open Sys2Proof

/-! ### The list -/

theorem Memory.lookup_store_same (m : Memory) (a : Nat) (b : Byte) :
    Memory.lookup (Memory.store m a b) a = some b := by
  induction m with
  | nil => simp [Memory.store, Memory.lookup]
  | cons c rest ih =>
    obtain ⟨x, y⟩ := c
    simp only [Memory.store]
    split
    · simp [Memory.lookup]
    · split
      · simp [Memory.lookup]
      · next hne => simp [Memory.lookup, hne, ih]

theorem Memory.lookup_store_ne (m : Memory) {a x : Nat} (b : Byte) (h : x ≠ a) :
    Memory.lookup (Memory.store m a b) x = Memory.lookup m x := by
  induction m with
  | nil => simp [Memory.store, Memory.lookup, h.symm]
  | cons c rest ih =>
    obtain ⟨y, v⟩ := c
    simp only [Memory.store]
    split
    · simp [Memory.lookup, h.symm]
    · split
      · next he => subst he; simp [Memory.lookup, h.symm]
      · simp [Memory.lookup, ih]

theorem Memory.mem_store {m : Memory} {a : Nat} {b : Byte} {c : Host.Cell} (h : c ∈ Memory.store m a b) :
    c ∈ m ∨ c.1 = a := by
  induction m with
  | nil => simp_all [Memory.store]
  | cons d rest ih =>
    obtain ⟨y, v⟩ := d
    simp only [Memory.store] at h
    split at h
    · rcases List.mem_cons.mp h with rfl | h'
      · exact .inr rfl
      · exact .inl h'
    · split at h
      · rcases List.mem_cons.mp h with rfl | h'
        · exact .inr rfl
        · exact .inl (List.mem_cons_of_mem _ h')
      · rcases List.mem_cons.mp h with rfl | h'
        · exact .inl (List.mem_cons_self ..)
        · exact (ih h').imp (List.mem_cons_of_mem _) id

/-- The canonical form, without its recursion on two entries. -/
theorem Memory.wf_cons (a : Nat) (b : Byte) (rest : Memory) :
    Memory.wf ((a, b) :: rest) = true ↔ (∀ c ∈ rest.head?, a < c.1) ∧ Memory.wf rest = true := by
  cases rest with
  | nil => simp [Memory.wf]
  | cons c rest => obtain ⟨x, y⟩ := c; simp [Memory.wf]

theorem Memory.head_store (m : Memory) (a : Nat) (b : Byte) :
    ∀ c ∈ (Memory.store m a b).head?, c.1 = a ∨ c ∈ m.head? := by
  cases m with
  | nil => simp [Memory.store]
  | cons d rest =>
    obtain ⟨x, y⟩ := d
    simp only [Memory.store]
    split
    · simp
    · split
      · simp
      · simp

/-- A write keeps the canonical form. -/
theorem Memory.wf_store (m : Memory) (a : Nat) (b : Byte) (h : Memory.wf m = true) :
    Memory.wf (Memory.store m a b) = true := by
  induction m with
  | nil => simp [Memory.store, Memory.wf]
  | cons c rest ih =>
    obtain ⟨x, y⟩ := c
    simp only [Memory.store]
    obtain ⟨hx, hr⟩ := (Memory.wf_cons _ _ _).mp h
    split
    · next hlt => exact (Memory.wf_cons _ _ _).mpr ⟨by simpa using hlt, h⟩
    · next hnlt =>
      split
      · next he => subst he; exact (Memory.wf_cons _ _ _).mpr ⟨hx, hr⟩
      · next hne =>
        refine (Memory.wf_cons _ _ _).mpr ⟨fun c hc => ?_, ih hr⟩
        rcases Memory.head_store rest a b c hc with he | hm
        · omega
        · exact hx c hm

/-- The reset memory has the canonical form. -/
theorem Memory.wf_reset : Memory.wf State.reset.mem = true := rfl

/-! ### Bytes and words of a state -/

/-- The bytes of a word written, each in its lane (R58). -/
theorem Memory.lookup_storeWord (m : Memory) (a x : Nat) (v : Word) :
    Memory.lookup (Memory.storeWord m a v) x =
      if x = a then some (byteLane v 0) else if x = a + 1 then some (byteLane v 1)
      else if x = a + 2 then some (byteLane v 2) else if x = a + 3 then some (byteLane v 3)
      else Memory.lookup m x := by
  unfold Memory.storeWord
  by_cases h3 : x = a + 3
  · subst h3; simp [Memory.lookup_store_same]
  · rw [Memory.lookup_store_ne _ _ h3]
    by_cases h2 : x = a + 2
    · subst h2; simp [Memory.lookup_store_same]
    · rw [Memory.lookup_store_ne _ _ h2]
      by_cases h1 : x = a + 1
      · subst h1; simp [Memory.lookup_store_same]
      · rw [Memory.lookup_store_ne _ _ h1]
        by_cases h0 : x = a
        · subst h0; simp [Memory.lookup_store_same]
        · rw [Memory.lookup_store_ne _ _ h0]; simp [h0, h1, h2, h3]

theorem State.readByte_writeWord (s : State) (a x : Nat) (v : Word) :
    (s.writeWord a v).readByte x =
      if x = a then byteLane v 0 else if x = a + 1 then byteLane v 1 else if x = a + 2 then byteLane v 2
      else if x = a + 3 then byteLane v 3 else s.readByte x := by
  simp only [State.readByte, State.writeWord_mem, State.writeWord_epoch, Memory.lookup_storeWord]
  split_ifs <;> rfl

/-- A word written leaves every byte outside its four alone. -/
theorem State.readByte_writeWord_outside (s : State) {a x : Nat} (v : Word) (h : x < a ∨ a + 4 ≤ x) :
    (s.writeWord a v).readByte x = s.readByte x := by
  rw [State.readByte_writeWord]; split_ifs <;> first | omega | rfl

theorem wordOfBytes_byteLane (v : Word) :
    wordOfBytes (byteLane v 0) (byteLane v 1) (byteLane v 2) (byteLane v 3) = v := by
  unfold wordOfBytes byteLane
  ext i hi
  simp only [BitVec.getElem_append, BitVec.getElem_extractLsb']
  split_ifs <;> (rw [← BitVec.getLsbD_eq_getElem]; congr 1; omega)

/-- A word read where it was written. -/
@[simp] theorem State.readWord_writeWord_same (s : State) (a : Nat) (v : Word) :
    (s.writeWord a v).readWord a = v := by
  simp [State.readWord, State.readByte_writeWord, wordOfBytes_byteLane]

/-- A word read apart from where one was written. -/
theorem State.readWord_writeWord_apart (s : State) {a x : Nat} (v : Word) (h : x + 4 ≤ a ∨ a + 4 ≤ x) :
    (s.writeWord a v).readWord x = s.readWord x := by
  unfold State.readWord
  rw [State.readByte_writeWord_outside, State.readByte_writeWord_outside, State.readByte_writeWord_outside,
    State.readByte_writeWord_outside] <;> omega

/-- Two states that read the same bytes at a word read the same word. -/
theorem State.readWord_congr {s t : State} {a : Nat} (h : ∀ x, a ≤ x → x < a + 4 → t.readByte x = s.readByte x) :
    t.readWord a = s.readWord a := by
  unfold State.readWord
  rw [h a, h (a + 1), h (a + 2), h (a + 3)] <;> omega

/-- A complex element is written as its two words, `re` first (R59). -/
theorem State.writeComplex_eq (s : State) (a : Nat) (z : Complex32) :
    s.writeComplex a z = (s.writeWord a z.re).writeWord (a + 4) z.im := rfl

@[simp] theorem State.readComplex_writeComplex_same (s : State) (a : Nat) (z : Complex32) :
    (s.writeComplex a z).readComplex a = z := by
  rw [State.writeComplex_eq]
  unfold State.readComplex
  rw [State.readWord_writeWord_apart _ _ (by omega)]
  simp

/-- A complex element read apart from where one was written. -/
theorem State.readComplex_writeComplex_apart (s : State) {a x : Nat} (z : Complex32) (h : x + 8 ≤ a ∨ a + 8 ≤ x) :
    (s.writeComplex a z).readComplex x = s.readComplex x := by
  rw [State.writeComplex_eq]
  unfold State.readComplex
  rw [State.readWord_writeWord_apart _ _ (by omega), State.readWord_writeWord_apart _ _ (by omega),
    State.readWord_writeWord_apart _ _ (by omega), State.readWord_writeWord_apart _ _ (by omega)]

/-- A complex element written leaves every byte outside its eight alone. -/
theorem State.readByte_writeComplex_outside (s : State) {a x : Nat} (z : Complex32) (h : x < a ∨ a + 8 ≤ x) :
    (s.writeComplex a z).readByte x = s.readByte x := by
  rw [State.writeComplex_eq]
  rw [State.readByte_writeWord_outside _ _ (by omega), State.readByte_writeWord_outside _ _ (by omega)]

/-! ### The canonical form under the operations of a state -/

theorem Memory.wf_storeWord {m : Memory} (a : Nat) (v : Word) (h : Memory.wf m = true) :
    Memory.wf (Memory.storeWord m a v) = true :=
  Memory.wf_store _ _ _ (Memory.wf_store _ _ _ (Memory.wf_store _ _ _ (Memory.wf_store _ _ _ h)))

theorem State.wf_writeWord {s : State} (a : Nat) (v : Word) (h : Memory.wf s.mem = true) :
    Memory.wf (s.writeWord a v).mem = true := Memory.wf_storeWord _ _ h

theorem State.wf_writeComplex {s : State} (a : Nat) (z : Complex32) (h : Memory.wf s.mem = true) :
    Memory.wf (s.writeComplex a z).mem = true := Memory.wf_storeWord _ _ (Memory.wf_storeWord _ _ h)

/-- Every offset a word write lists is one of its four, or was listed before. -/
theorem Memory.mem_storeWord {m : Memory} {a : Nat} {v : Word} {c : Host.Cell} (h : c ∈ Memory.storeWord m a v) :
    c ∈ m ∨ (a ≤ c.1 ∧ c.1 < a + 4) := by
  rcases Memory.mem_store h with h | h
  · rcases Memory.mem_store h with h | h
    · rcases Memory.mem_store h with h | h
      · rcases Memory.mem_store h with h | h
        · exact .inl h
        · exact .inr (by omega)
      · exact .inr (by omega)
    · exact .inr (by omega)
  · exact .inr (by omega)

/-- Every offset a complex write lists is one of its eight, or was listed before. -/
theorem State.mem_writeComplex {s : State} {a : Nat} {z : Complex32} {c : Host.Cell}
    (h : c ∈ (s.writeComplex a z).mem) : c ∈ s.mem ∨ (a ≤ c.1 ∧ c.1 < a + 8) := by
  rcases Memory.mem_storeWord h with h | h
  · rcases Memory.mem_storeWord h with h | h
    · exact .inl h
    · exact .inr (by omega)
  · exact .inr (by omega)

end Sys2Proof.Machine
end

