-- ==== Sys2Proof/Laws/Ops.lean ====
section
/-! SUPPORT. What each shared operation can do, said once. -/

namespace Sys2Proof.Machine

open Sys2Proof

/-! ### Loops -/

@[simp] theorem loop_zero {α : Type} (body : α → Nat → α) (x : α) : loop 0 body x = x := rfl

theorem loop_succ {α : Type} (n : Nat) (body : α → Nat → α) (x : α) :
    loop (n + 1) body x = body (loop n body x) n := by
  simp [loop, List.range_succ]

/-- What holds before a loop and is kept by each iteration below its bound holds after it; the property may name the
iteration count. -/
theorem loop_induction {α : Type} {n : Nat} {body : α → Nat → α} {x : α} (P : Nat → α → Prop) (h0 : P 0 x)
    (hs : ∀ i y, i < n → P i y → P (i + 1) (body y i)) : P n (loop n body x) := by
  induction n with
  | zero => exact h0
  | succ n ih =>
    rw [loop_succ]
    exact hs n _ (Nat.lt_succ_self n) (ih fun i y hi hy => hs i y (Nat.lt_succ_of_lt hi) hy)

/-! ### Completion and faults -/

theorem finish_eq (s : State) : finish s = .next s.complete := rfl
theorem trap_eq (s : State) (c : Cause) : trap s c = .next (s.raiseFault c) := rfl

/-- A command that ends in `finish` answers the completed state and no other. -/
theorem finish_next {s t : State} (h : finish s = .next t) : t = s.complete := by
  injection h with h; exact h.symm

/-- A command that ends in `trap` answers the state with the fault recorded and no other. -/
theorem trap_next {s t : State} {c : Cause} (h : trap s c = .next t) : t = s.raiseFault c := by
  injection h with h; exact h.symm

/-- An interpolation command: RESULT when the window fits, the DLY_WINDOW fault when not, nothing else (R113, R121). -/
theorem interpolate_cases {s t : State} {v : Word} (h : interpolate s v = .next t) :
    (s.windowFits = true ∧ t = (s.setResult v).complete) ∨ (s.windowFits = false ∧ t = s.raiseFault .dlyWindow) := by
  unfold interpolate at h
  split at h
  · next hw => exact .inl ⟨hw, finish_next h⟩
  · next hw => exact .inr ⟨by simpa using hw, trap_next h⟩

/-- An FFT command: its work when the size is in range, the BAD_FFT_SIZE fault when not (R90). -/
theorem fftCommand_cases {n : Nat} {s t : State} {work : State → State} (h : fftCommand n s work = .next t) :
    (n ≤ Config.log2Nmax ∧ t = (work s).complete) ∨ (Config.log2Nmax < n ∧ t = s.raiseFault .badFftSize) := by
  unfold fftCommand at h
  split at h
  · next hn => exact .inl ⟨hn, finish_next h⟩
  · next hn => exact .inr ⟨by omega, trap_next h⟩

/-! ### Operations that change memory alone -/

/-- `t` differs from `s` in memory only. -/
def OnlyMemory (s t : State) : Prop := ∃ m, t = { s with mem := m }

theorem OnlyMemory.refl (s : State) : OnlyMemory s s := ⟨s.mem, rfl⟩

theorem OnlyMemory.trans {s t u : State} (h : OnlyMemory s t) (h' : OnlyMemory t u) : OnlyMemory s u := by
  obtain ⟨m, rfl⟩ := h; obtain ⟨m', rfl⟩ := h'; exact ⟨m', rfl⟩

theorem OnlyMemory.writeWord (s : State) (a : Nat) (v : Word) : OnlyMemory s (s.writeWord a v) := ⟨_, rfl⟩
theorem OnlyMemory.writeComplex (s : State) (a : Nat) (z : Complex32) : OnlyMemory s (s.writeComplex a z) := ⟨_, rfl⟩

/-- A loop whose iterations change memory alone changes memory alone. -/
theorem OnlyMemory.loop {n : Nat} {body : State → Nat → State} (hb : ∀ s i, OnlyMemory s (body s i)) (s : State) :
    OnlyMemory s (loop n body s) :=
  loop_induction (fun _ t => OnlyMemory s t) (.refl s) fun i t _ ht => ht.trans (hb t i)

theorem OnlyMemory.twgen (s : State) (order : Nat) (inv : Bool) : OnlyMemory s (s.twgen order inv) :=
  .loop (fun s _ => .writeComplex s _ _) s

theorem OnlyMemory.butterfly (s : State) (tw i1 i2 : Nat) : OnlyMemory s (s.butterfly tw i1 i2) :=
  (OnlyMemory.writeComplex s _ _).trans (.writeComplex _ _ _)

theorem OnlyMemory.fftStage (s : State) (order stage : Nat) : OnlyMemory s (s.fftStage order stage) :=
  .loop (fun s _ => .loop (fun s _ => .butterfly s _ _ _) s) s

theorem OnlyMemory.radix2 (s : State) (order : Nat) : OnlyMemory s (s.radix2 order) :=
  .loop (fun s stage => .fftStage s order stage) s

theorem OnlyMemory.swapCbuf (s : State) (i j : Nat) : OnlyMemory s (s.swapCbuf i j) :=
  (OnlyMemory.writeComplex s _ _).trans (.writeComplex _ _ _)

theorem OnlyMemory.bitrev (s : State) (order : Nat) : OnlyMemory s (s.bitrev order) := by
  refine .loop (fun s i => ?_) s
  split
  · exact .swapCbuf s _ _
  · exact .refl s

/-- The sample loop changes the core's memory alone, and carries the strips beside it (R156). -/
theorem OnlyMemory.blockLoop (p : Params) (n : Nat) (b : Block) : OnlyMemory b.st (blockLoop p n b).st :=
  loop_induction (fun _ (c : Block) => OnlyMemory b.st c.st) (.refl b.st)
    fun _ c _ hc => hc.trans ((OnlyMemory.writeWord c.st _ _).trans (.writeWord _ _ _))

/-! ### The canonical form of memory under every operation that writes it -/

/-- A loop whose iterations keep the canonical form keeps it. -/
theorem State.wf_loop {n : Nat} {body : State → Nat → State} {s : State}
    (hb : ∀ u i, Memory.wf u.mem = true → Memory.wf (body u i).mem = true) (h : Memory.wf s.mem = true) :
    Memory.wf (loop n body s).mem = true :=
  loop_induction (fun _ (u : State) => Memory.wf u.mem = true) h fun i y _ hy => hb y i hy

theorem State.wf_twgen {s : State} (order : Nat) (inv : Bool) (h : Memory.wf s.mem = true) :
    Memory.wf (s.twgen order inv).mem = true :=
  State.wf_loop (fun _ _ hu => State.wf_writeComplex _ _ hu) h

theorem State.wf_radix2 {s : State} (order : Nat) (h : Memory.wf s.mem = true) : Memory.wf (s.radix2 order).mem = true :=
  State.wf_loop
    (fun _ _ hu => State.wf_loop
      (fun _ _ hv => State.wf_loop (fun _ _ hw => State.wf_writeComplex _ _ (State.wf_writeComplex _ _ hw)) hv) hu) h

theorem State.wf_bitrev {s : State} (order : Nat) (h : Memory.wf s.mem = true) : Memory.wf (s.bitrev order).mem = true := by
  refine State.wf_loop (fun u i hu => ?_) h
  split
  · exact State.wf_writeComplex _ _ (State.wf_writeComplex _ _ hu)
  · exact hu

theorem State.wf_blockLoop {b : Block} (p : Params) (n : Nat) (h : Memory.wf b.st.mem = true) :
    Memory.wf (blockLoop p n b).st.mem = true :=
  loop_induction (fun _ (c : Block) => Memory.wf c.st.mem = true) h
    fun _ _ _ hc => State.wf_writeWord _ _ (State.wf_writeWord _ _ hc)

/-! ### Answering the waiting STATUS reads: only the queue and the responses change. -/

@[simp] theorem State.answerPolls_bus (s : State) : s.answerPolls.bus = s.bus.filter (fun a => !a.isStatusRead) := rfl
@[simp] theorem State.answerPolls_resetIn (s : State) : s.answerPolls.resetIn = s.resetIn := rfl
@[simp] theorem State.answerPolls_epoch (s : State) : s.answerPolls.epoch = s.epoch := rfl
@[simp] theorem State.answerPolls_seq (s : State) : s.answerPolls.seq = s.seq := rfl
@[simp] theorem State.answerPolls_cmd (s : State) : s.answerPolls.cmd = s.cmd := rfl
@[simp] theorem State.answerPolls_arg0 (s : State) : s.answerPolls.arg0 = s.arg0 := rfl
@[simp] theorem State.answerPolls_arg1 (s : State) : s.answerPolls.arg1 = s.arg1 := rfl
@[simp] theorem State.answerPolls_result (s : State) : s.answerPolls.result = s.result := rfl
@[simp] theorem State.answerPolls_done (s : State) : s.answerPolls.done = s.done := rfl
@[simp] theorem State.answerPolls_err (s : State) : s.answerPolls.err = s.err := rfl
@[simp] theorem State.answerPolls_irqEn (s : State) : s.answerPolls.irqEn = s.irqEn := rfl
@[simp] theorem State.answerPolls_errCause (s : State) : s.answerPolls.errCause = s.errCause := rfl
@[simp] theorem State.answerPolls_errCmd (s : State) : s.answerPolls.errCmd = s.errCmd := rfl
@[simp] theorem State.answerPolls_osc (s : State) : s.answerPolls.osc = s.osc := rfl
@[simp] theorem State.answerPolls_dlyBase (s : State) : s.answerPolls.dlyBase = s.dlyBase := rfl
@[simp] theorem State.answerPolls_dlyLen (s : State) : s.answerPolls.dlyLen = s.dlyLen := rfl
@[simp] theorem State.answerPolls_mod (s : State) : s.answerPolls.mod = s.mod := rfl
@[simp] theorem State.answerPolls_ctl (s : State) : s.answerPolls.ctl = s.ctl := rfl
@[simp] theorem State.answerPolls_prm (s : State) : s.answerPolls.prm = s.prm := rfl
@[simp] theorem State.answerPolls_collab (s : State) : s.answerPolls.collab = s.collab := rfl
@[simp] theorem State.answerPolls_mem (s : State) : s.answerPolls.mem = s.mem := rfl
@[simp] theorem State.answerPolls_operands (s : State) : s.answerPolls.operands = s.operands := rfl
@[simp] theorem State.answerPolls_busy (s : State) : s.answerPolls.busy = s.busy := rfl
@[simp] theorem State.answerPolls_prepared (s : State) : s.answerPolls.prepared = s.prepared := rfl
@[simp] theorem State.answerPolls_readByte (s : State) (a : Nat) : s.answerPolls.readByte a = s.readByte a := rfl
@[simp] theorem State.answerPolls_readWord (s : State) (a : Nat) : s.answerPolls.readWord a = s.readWord a := rfl

/-- One response for each read that waited; with none, the responses stay. -/
theorem State.answerPolls_reply (s : State) :
    s.answerPolls.reply =
      if s.polls = [] then s.reply else List.replicate s.polls.length { error := false, data := s.statusWord } := by
  unfold State.answerPolls
  cases h : s.polls <;> simp [List.map_const', List.replicate_succ]

/-- With no STATUS read waiting nothing changes. -/
theorem State.answerPolls_of_none {s : State} (h : ∀ a ∈ s.bus, a.isStatusRead = false) : s.answerPolls = s := by
  have hp : s.polls = [] := List.filter_eq_nil_iff.mpr fun a ha => by simp [h a ha]
  have hb : s.bus.filter (fun a => !a.isStatusRead) = s.bus := List.filter_eq_self.mpr fun a ha => by simp [h a ha]
  unfold State.answerPolls
  rw [hp, hb]
  rfl

/-! ### Host accesses -/

/-- What a host access in order does: an aligned one is served, any other gets the error response (R66). -/
theorem perform_cases {s t : State} {a : BusAccess} (h : s.perform a = .next t) :
    a.offset < windowSize ∧
      ((a.aligned = true ∧ t = s.serve a) ∨ (a.aligned = false ∧ t = s.setReply [{ error := true, data := 0#32 }])) := by
  unfold State.perform at h
  split at h
  · cases h
  · next hw =>
    refine ⟨by omega, ?_⟩
    split at h
    · next ha => injection h with h; exact .inl ⟨ha, h.symm⟩
    · next ha => injection h with h; exact .inr ⟨by simpa using ha, h.symm⟩

/-- What one step can do: take the reset, wait, perform the access that arrived first, or answer the STATUS reads that wait and
run the command in progress. -/
theorem step_cases {s t : State} (h : step s = .next t) :
    (s.resetIn = true ∧ t = s.takeReset) ∨
    (s.resetIn = false ∧ s.seq = none ∧ s.bus = [] ∧ t = s) ∨
    (∃ a rest, s.resetIn = false ∧ s.seq = none ∧ s.bus = a :: rest ∧ (s.setBus rest).perform a = .next t) ∨
    (∃ l, s.resetIn = false ∧ s.seq = some l ∧ s.answerPolls.runCommand l.word = .next t) := by
  unfold step at h
  split at h
  · next hr => injection h with h; exact .inl ⟨hr, h.symm⟩
  · next hr =>
    split at h
    · next hs =>
      unfold State.idleStep at h
      split at h
      · next hb => injection h with h; exact .inr (.inl ⟨hr, hs, hb, h.symm⟩)
      · next a rest hb => exact .inr (.inr (.inl ⟨a, rest, hr, hs, hb, h⟩))
    · next l hs => exact .inr (.inr (.inr ⟨l, hr, hs, h⟩))

end Sys2Proof.Machine
end

