-- ==== Sys2Proof/Laws/PerInstr.lean ====
section
/-! SUPPORT. One lemma per command: the encoding puts the command's own opcode in OPC and zero in RSV, whatever its fields hold
(R81, R87). -/

namespace Sys2Proof.Laws

open Sys2Proof

/-- The opcode of R87's map. -/
def opcodeOf : Instr → Nat
  | .nop => 0x00
  | .oscSetShape _ => 0x10
  | .oscSetSr => 0x11
  | .oscSetFreq => 0x12
  | .oscSetPhase => 0x13
  | .oscAddPhase => 0x14
  | .oscSetPw => 0x15
  | .oscNext => 0x16
  | .interpNone => 0x20
  | .interpLinear => 0x21
  | .interpHermite => 0x22
  | .fftTwgen _ _ => 0x30
  | .fftRadix2 _ => 0x31
  | .fftBitrev _ => 0x32
  | .modPrepare => 0x40
  | .modProcess => 0x41
  | .modNextDist => 0x42

/-- The encoding carries the command's opcode and keeps RSV zero. -/
def OpcodeField.Statement (i : Instr) : Prop := fieldOpc (encode i) = opcodeOf i ∧ fieldRsv (encode i) = 0

/-- OPC of a packed word. -/
theorem fieldOpc_packWord (fi : Bool) (fa : Nat) (opc : Byte) : fieldOpc (packWord fi fa opc) = opc.toNat := by
  unfold fieldOpc packWord
  congr 1
  ext i hi
  simp only [BitVec.getElem_extractLsb', BitVec.getLsbD_append, Nat.zero_add, hi, if_true]
  exact BitVec.getLsbD_eq_getElem hi

/-- RSV of a packed word. -/
theorem fieldRsv_packWord (fi : Bool) (fa : Nat) (opc : Byte) : fieldRsv (packWord fi fa opc) = 0 := by
  have h : (packWord fi fa opc).extractLsb' 13 19 = 0#19 := by
    unfold packWord
    ext i hi
    simp only [BitVec.getElem_extractLsb', BitVec.getLsbD_append]
    have h1 : ¬ 13 + i < 8 := by omega
    have h2 : ¬ 13 + i - 8 < 4 := by omega
    have h3 : ¬ 13 + i - 8 - 4 < 1 := by omega
    simp [h1, h2, h3]
  unfold fieldRsv
  rw [h]
  rfl

theorem OpcodeField.nop : OpcodeField.Statement .nop :=
  ⟨fieldOpc_packWord _ _ _, fieldRsv_packWord _ _ _⟩
theorem OpcodeField.oscSetShape (shape : Nat) : OpcodeField.Statement (.oscSetShape shape) :=
  ⟨fieldOpc_packWord _ _ _, fieldRsv_packWord _ _ _⟩
theorem OpcodeField.oscSetSr : OpcodeField.Statement .oscSetSr :=
  ⟨fieldOpc_packWord _ _ _, fieldRsv_packWord _ _ _⟩
theorem OpcodeField.oscSetFreq : OpcodeField.Statement .oscSetFreq :=
  ⟨fieldOpc_packWord _ _ _, fieldRsv_packWord _ _ _⟩
theorem OpcodeField.oscSetPhase : OpcodeField.Statement .oscSetPhase :=
  ⟨fieldOpc_packWord _ _ _, fieldRsv_packWord _ _ _⟩
theorem OpcodeField.oscAddPhase : OpcodeField.Statement .oscAddPhase :=
  ⟨fieldOpc_packWord _ _ _, fieldRsv_packWord _ _ _⟩
theorem OpcodeField.oscSetPw : OpcodeField.Statement .oscSetPw :=
  ⟨fieldOpc_packWord _ _ _, fieldRsv_packWord _ _ _⟩
theorem OpcodeField.oscNext : OpcodeField.Statement .oscNext :=
  ⟨fieldOpc_packWord _ _ _, fieldRsv_packWord _ _ _⟩
theorem OpcodeField.interpNone : OpcodeField.Statement .interpNone :=
  ⟨fieldOpc_packWord _ _ _, fieldRsv_packWord _ _ _⟩
theorem OpcodeField.interpLinear : OpcodeField.Statement .interpLinear :=
  ⟨fieldOpc_packWord _ _ _, fieldRsv_packWord _ _ _⟩
theorem OpcodeField.interpHermite : OpcodeField.Statement .interpHermite :=
  ⟨fieldOpc_packWord _ _ _, fieldRsv_packWord _ _ _⟩
theorem OpcodeField.fftTwgen (n : Nat) (inv : Bool) : OpcodeField.Statement (.fftTwgen n inv) :=
  ⟨fieldOpc_packWord _ _ _, fieldRsv_packWord _ _ _⟩
theorem OpcodeField.fftRadix2 (n : Nat) : OpcodeField.Statement (.fftRadix2 n) :=
  ⟨fieldOpc_packWord _ _ _, fieldRsv_packWord _ _ _⟩
theorem OpcodeField.fftBitrev (n : Nat) : OpcodeField.Statement (.fftBitrev n) :=
  ⟨fieldOpc_packWord _ _ _, fieldRsv_packWord _ _ _⟩
theorem OpcodeField.modPrepare : OpcodeField.Statement .modPrepare :=
  ⟨fieldOpc_packWord _ _ _, fieldRsv_packWord _ _ _⟩
theorem OpcodeField.modProcess : OpcodeField.Statement .modProcess :=
  ⟨fieldOpc_packWord _ _ _, fieldRsv_packWord _ _ _⟩
theorem OpcodeField.modNextDist : OpcodeField.Statement .modNextDist :=
  ⟨fieldOpc_packWord _ _ _, fieldRsv_packWord _ _ _⟩

end Sys2Proof.Laws
end

