-- ==== Sys2Proof/Machine/Assembly.lean ====
section
/-! DEFINITION. The notation for host programs: command lines, host operations, pseudo-instructions and disassembly (R92 to
R95). The machine itself never reads text. -/

namespace Sys2Proof.Machine

open Sys2Proof

/-- The name of a SHAPE value, 3 to 15 in decimal (R92, R95). -/
def shapeText : Nat → String
  | 0 => "sine"
  | 1 => "triangle"
  | 2 => "square"
  | n => toString n

/-- The line a disassembler prints for a command (R92, R95). -/
def asmText : Instr → String
  | .nop => "nop"
  | .oscSetShape shape => "osc.shape " ++ shapeText shape
  | .oscSetSr => "osc.sr"
  | .oscSetFreq => "osc.freq"
  | .oscSetPhase => "osc.phase"
  | .oscAddPhase => "osc.addphase"
  | .oscSetPw => "osc.pw"
  | .oscNext => "osc.next"
  | .interpNone => "interp.none"
  | .interpLinear => "interp.lin"
  | .interpHermite => "interp.herm"
  | .fftTwgen log2n inv => "fft.twgen " ++ toString log2n ++ (if inv then ", inv" else "")
  | .fftRadix2 log2n => "fft.radix2 " ++ toString log2n
  | .fftBitrev log2n => "fft.bitrev " ++ toString log2n
  | .modPrepare => "mod.prepare"
  | .modProcess => "mod.process"
  | .modNextDist => "mod.nextdist"

/-- One hexadecimal digit. -/
def hexDigit (n : Nat) : Char := if n < 10 then Char.ofNat (48 + n) else Char.ofNat (55 + n)

/-- A word as eight hexadecimal digits. -/
def hexText (w : Word) : String :=
  String.ofList ((List.range 8).map (fun i => hexDigit (w.toNat / 16 ^ (7 - i) % 16)))

/-- What a disassembler prints for a word, and whether it marks it illegal (R95). -/
def disassemble (w : Word) : String × Bool :=
  match decode w with
  | .ok i => (asmText i, false)
  | .error _ => (".word 0x" ++ hexText w, true)

/-- The lines an assembler takes for a command: the printed one, and for `osc.shape` the decimal too (R92). -/
def spellings : Instr → List String
  | .oscSetShape shape => [asmText (.oscSetShape shape), "osc.shape " ++ toString shape]
  | i => [asmText i]

/-- Every command an assembler line can stand for: those with an encoding (R92). -/
def assemblable : List Instr :=
  [ .nop, .oscSetSr, .oscSetFreq, .oscSetPhase, .oscAddPhase, .oscSetPw, .oscNext, .interpNone, .interpLinear,
    .interpHermite, .modPrepare, .modProcess, .modNextDist ]
  ++ (List.range 16).map (fun n => .oscSetShape n)
  ++ (List.range 16).map (fun n => .fftTwgen n false)
  ++ (List.range 16).map (fun n => .fftTwgen n true)
  ++ (List.range 16).map (fun n => .fftRadix2 n)
  ++ (List.range 16).map (fun n => .fftBitrev n)

/-- The word a command line encodes, in the spacing of R92; `none` where the assembler rejects the line. -/
def assembleLine (line : String) : Option Word :=
  (assemblable.find? (fun i => (spellings i).contains line)).map encode

/-- The pattern of the f32 nearest a decimal `±digits / 10^scale`, ties to even: the `f:<decimal>` of R93. -/
def decimalF32 (neg : Bool) (digits scale : Nat) : F32 := roundUnits neg (digits * 2 ^ 149) (10 ^ scale)

/-- The first offset a row of the table gives a register. -/
def offsetIn : List (Nat × Reg) → Reg → Nat
  | [], _ => 0
  | (o, x) :: rest, r => if x = r then o else offsetIn rest r

/-- `wr @off, value` (R93). -/
def wrAt (off : Nat) (value : Word) : BusAccess := { offset := off, width := .word, op := .write value }
/-- `rd @off` (R93). -/
def rdAt (off : Nat) : BusAccess := { offset := off, width := .word, op := .read }
/-- `wr REG, value` (R93). -/
def wrReg (r : Reg) (value : Word) : BusAccess := wrAt (offsetIn registerMap r) value
/-- `rd REG` (R93). -/
def rdReg (r : Reg) : BusAccess := rdAt (offsetIn registerMap r)
/-- A command line in a host program: a host write of its encoding to CMD (R92). -/
def issueOf (i : Instr) : BusAccess := wrReg .cmd (encode i)

/-- `osc.sr f:v` and the other one-operand forms (R94). -/
def withArg0 (v : Word) (i : Instr) : List BusAccess := [wrReg .arg0 v, issueOf i]
/-- `interp.* p, f:q` and `mod.prepare f:sr, bs` (R94). -/
def withArgs (v0 v1 : Word) (i : Instr) : List BusAccess := [wrReg .arg0 v0, wrReg .arg1 v1, issueOf i]
/-- `fft.forward n` and `fft.inverse n`: one expansion, over whatever table TW holds (R94). -/
def fftTransform (n : Nat) : List BusAccess := [issueOf (.fftBitrev n), issueOf (.fftRadix2 n)]
/-- `clrerr` (R94). -/
def clrErr : List BusAccess := [wrReg .status 0x4#32]
/-- `clrdone` (R94). -/
def clrDone : List BusAccess := [wrReg .status 0x2#32]
/-- `window b, l` (R94). -/
def windowOf (b l : Word) : List BusAccess := [wrReg .dlyBase b, wrReg .dlyLen l]

end Sys2Proof.Machine
end

