-- ==== Sys2Proof/Tests/Slice0.lean ====
section
/-! SUPPORT. Tests. Expected values are those of spec/95_test_vectors.md and of the rules' own examples, each named beside its
test; the last section gives every statement with hypotheses a state and operands that meet them. -/

namespace Sys2Proof.Tests

open Sys2Proof Sys2Proof.Machine

/-! ### Well-formedness -/

theorem test_wf_refuses_shape_16 : (Instr.oscSetShape 16).wellFormed = false := by decide
theorem test_wf_refuses_twgen_16 : (Instr.fftTwgen 16 true).wellFormed = false := by decide
theorem test_wf_refuses_radix2_16 : (Instr.fftRadix2 16).wellFormed = false := by decide
theorem test_wf_refuses_bitrev_16 : (Instr.fftBitrev 16).wellFormed = false := by decide
theorem test_wf_takes_field_15 : (Instr.oscSetShape 15).wellFormed = true ∧ (Instr.fftTwgen 15 false).wellFormed = true := by
  decide

/-! ### Decoding: words written bit by bit from the patterns of R82 and the opcodes of R87 -/

theorem test_word_nop : decode 0b0000000000000000000_0_0000_00000000#32 = .ok .nop := by decide
theorem test_word_oscSetShape : decode 0b0000000000000000000_0_0110_00010000#32 = .ok (.oscSetShape 6) := by decide
theorem test_word_oscSetSr : decode 0b0000000000000000000_0_0000_00010001#32 = .ok .oscSetSr := by decide
theorem test_word_oscSetFreq : decode 0b0000000000000000000_0_0000_00010010#32 = .ok .oscSetFreq := by decide
theorem test_word_oscSetPhase : decode 0b0000000000000000000_0_0000_00010011#32 = .ok .oscSetPhase := by decide
theorem test_word_oscAddPhase : decode 0b0000000000000000000_0_0000_00010100#32 = .ok .oscAddPhase := by decide
theorem test_word_oscSetPw : decode 0b0000000000000000000_0_0000_00010101#32 = .ok .oscSetPw := by decide
theorem test_word_oscNext : decode 0b0000000000000000000_0_0000_00010110#32 = .ok .oscNext := by decide
theorem test_word_interpNone : decode 0b0000000000000000000_0_0000_00100000#32 = .ok .interpNone := by decide
theorem test_word_interpLinear : decode 0b0000000000000000000_0_0000_00100001#32 = .ok .interpLinear := by decide
theorem test_word_interpHermite : decode 0b0000000000000000000_0_0000_00100010#32 = .ok .interpHermite := by decide
theorem test_word_fftTwgen : decode 0b0000000000000000000_1_1100_00110000#32 = .ok (.fftTwgen 12 true) := by decide
theorem test_word_fftRadix2 : decode 0b0000000000000000000_0_1101_00110001#32 = .ok (.fftRadix2 13) := by decide
theorem test_word_fftBitrev : decode 0b0000000000000000000_0_0011_00110010#32 = .ok (.fftBitrev 3) := by decide
theorem test_word_modPrepare : decode 0b0000000000000000000_0_0000_01000000#32 = .ok .modPrepare := by decide
theorem test_word_modProcess : decode 0b0000000000000000000_0_0000_01000001#32 = .ok .modProcess := by decide
theorem test_word_modNextDist : decode 0b0000000000000000000_0_0000_01000010#32 = .ok .modNextDist := by decide

/-- ENC-2, ENC-3, ENC-11, ENC-12, ENC-16, ENC-18, ENC-22, ENC-23. -/
theorem test_reserved_fields :
    decode 0x00000100#32 = .error .reservedField ∧ decode 0x80000000#32 = .error .reservedField ∧
      decode 0x00001010#32 = .error .reservedField ∧ decode 0x00001310#32 = .error .reservedField ∧
      decode 0x00001231#32 = .error .reservedField ∧ decode 0x00001D31#32 = .error .reservedField ∧
      decode 0x00002000#32 = .error .reservedField ∧ decode 0x00000142#32 = .error .reservedField := by
  decide

/-- ENC-4, ENC-5, ENC-6 and the ends of R88's other ranges. -/
theorem test_reserved_opcodes :
    ∀ n ∈ [0x01, 0x0F, 0x17, 0x1F, 0x23, 0x2F, 0x33, 0x3F, 0x43, 0xFF],
      decode (BitVec.ofNat 32 n) = .error (.reservedOpcode n) := by decide

/-- No word is two rows' of the opcode table. -/
theorem test_rows_apart :
    ∀ a ∈ opcodeRows, ∀ b ∈ opcodeRows, a ≠ b → (a.pattern ^^^ b.pattern) &&& a.mask &&& b.mask ≠ 0#32 := by
  decide +kernel

/-- The disassembly lines under section 2.1. -/
theorem test_disassembly :
    disassemble 0x00000310#32 = ("osc.shape 3", false) ∧ disassemble 0x00001C30#32 = ("fft.twgen 12, inv", false) ∧
      disassemble 0x00000100#32 = (".word 0x00000100", true) ∧ disassemble 0x00000D31#32 = ("fft.radix2 13", false) := by
  decide +kernel

/-! ### One step of each command -/

/-- A state BUSY with a command whose operands are given. -/
def busyWith (a0 a1 : Word) : State := { State.reset with seq := some { word := 0#32, arg0 := a0, arg1 := a1 } }

/-- The state a command answers; the state itself where it answers none. -/
def ran (i : Instr) (s : State) : State :=
  match exec i s with
  | .next t => t
  | .fault _ => s
  | .refused _ => s

/-- ENC-1. -/
theorem test_nop : ran .nop (busyWith 0 0) = { State.reset with done := true } := by decide
/-- ENC-7. -/
theorem test_oscSetShape : (ran (.oscSetShape 1) (busyWith 0 0)).osc.shape = .triangle := by decide
/-- ENC-9. -/
theorem test_oscSetShape_fault :
    (ran (.oscSetShape 3) (busyWith 0 0)).errCause = .badShape ∧ (ran (.oscSetShape 3) (busyWith 0 0)).done = false := by
  decide
/-- R105's example. -/
theorem test_oscSetSr : (ran .oscSetSr (busyWith 0x473B8000#32 7)).osc.sampleRate = 0x473B8000#32 := by decide
/-- R106's example. -/
theorem test_oscSetFreq :
    (ran .oscSetFreq { busyWith 0x447A0000#32 0 with
      osc := { State.reset.osc with sampleRate := 0x473B8000#32 } }).osc.increment = 0x3CAAAAAB#32 := by decide +kernel
/-- 2.2: -1000.0 at the reset rate. -/
theorem test_oscSetFreq_zero_rate : (ran .oscSetFreq (busyWith 0xC47A0000#32 0)).osc.increment = 0xFF800000#32 := by
  decide +kernel
/-- R107: a NaN payload is kept. -/
theorem test_oscSetPhase : (ran .oscSetPhase (busyWith 0x7FC00001#32 0)).osc.phase = 0x7FC00001#32 := by decide
/-- 2.2: 0.9 and 0.2. -/
theorem test_oscAddPhase :
    (ran .oscAddPhase { busyWith 0x3E4CCCCD#32 0 with
      osc := { State.reset.osc with phase := 0x3F666666#32 } }).osc.phase = 0x3DCCCCD0#32 := by decide +kernel
/-- 2.2: the wrap fix-up at -1e-10. -/
theorem test_oscAddPhase_fixup : (ran .oscAddPhase (busyWith 0xAEDBE6FF#32 0)).osc.phase = 0x00000000#32 := by
  decide +kernel
/-- R109: stored raw. -/
theorem test_oscSetPw : (ran .oscSetPw (busyWith 0x3FC00000#32 0)).osc.pulseWidth = 0x3FC00000#32 := by decide
/-- OSC-SEQ-1, the second sample. -/
theorem test_oscNext_sine :
    let t := ran .oscNext { busyWith 0 0 with
      osc := { State.reset.osc with phase := 0x3CAAAAAB#32, increment := 0x3CAAAAAB#32 } }
    t.result = 0x3E05A8A9#32 ∧ t.osc.phase = 0x3D2AAAAB#32 := by decide +kernel
/-- OSC-SEQ-6. -/
theorem test_oscNext_triangle :
    let t := ran .oscNext { busyWith 0 0 with
      osc := { State.reset.osc with shape := .triangle, phase := 0x40000000#32, increment := 0x3E800000#32 } }
    t.result = 0xC0A00000#32 ∧ t.osc.phase = 0x3E800000#32 := by decide +kernel
/-- 2.2: five SIN2PI values, the zero of 0.5 and the NaN among them. -/
theorem test_sine_values :
    sin2pi 0x3DCCCCCD#32 = 0x3F167918#32 ∧ sin2pi 0x3F000000#32 = 0x00000000#32 ∧ sin2pi 0x3F7FFFFF#32 = 0xB4C90FDB#32 ∧
      sin2pi 0xBE800000#32 = 0xBF800000#32 ∧ sin2pi 0x7FC00001#32 = 0x7FC00000#32 := by decide +kernel
/-- 2.2: a width of -0.2 acts as 0.0, and one of 1.5 as 1.0. -/
theorem test_pulse_values :
    pulseWave 0x00000000#32 0xBE4CCCCD#32 = 0x3F800000#32 ∧ pulseWave 0x3F7FFFFF#32 0x3FC00000#32 = 0xBF800000#32 := by
  decide

/-- The window of section 2.3: DLY[0..3] is 0.0, 2.0, 4.0, 6.0. -/
def window4 (a0 a1 : Word) : State :=
  { ((((busyWith a0 a1).writeWord 0x20000 0x00000000#32).writeWord 0x20004 0x40000000#32).writeWord 0x20008
      0x40800000#32).writeWord 0x2000C 0x40C00000#32 with dlyBase := 0#32, dlyLen := 4#32 }

/-- INT-2. -/
theorem test_interpNone : (ran .interpNone (window4 0xFFFFFFFF#32 0x7FC00000#32)).result = 0x40C00000#32 := by
  decide +kernel
/-- R113: a zero length. -/
theorem test_interpNone_fault : (ran .interpNone (busyWith 0 0)).errCause = .dlyWindow := by decide
/-- INT-3 and INT-13. -/
theorem test_interpLinear :
    (ran .interpLinear (window4 3#32 0x3F000000#32)).result = 0x40400000#32 ∧
      (ran .interpLinear (window4 3#32 0x3F7FFFFF#32)).result = 0x35000000#32 := by decide +kernel
/-- INT-8 and INT-12. -/
theorem test_interpHermite :
    (ran .interpHermite (window4 0#32 0x3F000000#32)).result = 0x3F000000#32 ∧
      (ran .interpHermite (window4 0xFFFFFFFF#32 0x3E800000#32)).result = 0x409C0000#32 := by decide +kernel

/-- R125's example: `fft.twgen 3`. -/
theorem test_fftTwgen :
    let t := ran (.fftTwgen 3 false) (busyWith 0 0)
    t.readComplex 0x8000 = ⟨0x3F800000#32, 0x80000000#32⟩ ∧ t.readComplex 0x8008 = ⟨0x3F3504F3#32, 0xBF3504F3#32⟩ ∧
      t.readComplex 0x8010 = ⟨0x00000000#32, 0xBF800000#32⟩ ∧ t.readComplex 0x8018 = ⟨0xBF3504F3#32, 0xBF3504F3#32⟩ := by
  decide +kernel
/-- S6: the inverse table for N = 4. -/
theorem test_fftTwgen_inverse :
    let t := ran (.fftTwgen 2 true) (busyWith 0 0)
    t.readComplex 0x8000 = ⟨0x3F800000#32, 0x00000000#32⟩ ∧ t.readComplex 0x8008 = ⟨0x00000000#32, 0x3F800000#32⟩ := by
  decide +kernel
/-- R127's example: N = 2. -/
theorem test_fftRadix2 :
    let s := (((busyWith 0 0).writeComplex 0x8000 ⟨0x3F800000#32, 0x80000000#32⟩).writeComplex 0x10000
      ⟨0x3F800000#32, 0#32⟩).writeComplex 0x10008 ⟨0x40000000#32, 0#32⟩
    (ran (.fftRadix2 1) s).readComplex 0x10000 = ⟨0x40400000#32, 0#32⟩ ∧
      (ran (.fftRadix2 1) s).readComplex 0x10008 = ⟨0xBF800000#32, 0#32⟩ := by decide +kernel
/-- ENC-17. -/
theorem test_fftRadix2_fault : (ran (.fftRadix2 13) (busyWith 0 0)).errCause = .badFftSize := by decide
/-- R129's example: N = 8, element by element. -/
theorem test_fftBitrev :
    let s := loop 8 (fun s i => s.writeComplex (0x10000 + 8 * i) ⟨BitVec.ofNat 32 i, 0#32⟩) (busyWith 0 0)
    (List.range 8).map (fun i => ((ran (.fftBitrev 3) s).readComplex (0x10000 + 8 * i)).re.toNat) =
      [0, 4, 2, 6, 1, 5, 3, 7] := by decide +kernel

/-- A prepared module with block size 1 at 48000 Hz. -/
def prepared1 (gate : BitVec 2) : State :=
  { ran .modPrepare (busyWith 0x473B8000#32 1#32) with mod.gateIn := gate }

/-- R154: the block rate of 48000 / 1, and PREPARED. -/
theorem test_modPrepare : (prepared1 0#2).mod.blockRate = 0x473B8000#32 ∧ (prepared1 0#2).prepared = true := by
  decide +kernel
/-- R154: ALREADY_PREPARED comes before BAD_BLOCK_SIZE. -/
theorem test_modPrepare_twice : (ran .modPrepare (prepared1 0#2)).errCause = .alreadyPrepared := by decide +kernel
/-- S9. -/
theorem test_modProcess_gates :
    (ran .modProcess (prepared1 1#2)).mod.gateOut = 1#2 ∧ (ran .modProcess (prepared1 3#2)).mod.gateOut = 2#2 := by
  decide +kernel
/-- R156 on an unprepared module. -/
theorem test_modProcess_fault : (ran .modProcess (busyWith 0 0)).errCause = .notPrepared := by decide

/-- R164: both selectors take the same step. -/
theorem test_modNextDist :
    (ran .modNextDist (busyWith 0 0)).mod.sel0 = (ran .modNextDist (busyWith 0 0)).mod.sel1 := by rfl

/-! ### States and operands that meet the hypotheses of the statements

One theorem a statement, under the statement's name; a clause with bounds is met at them. -/

/-- A word accepted, the command not yet run. -/
def accepted (w : Word) : State := State.reset.issue w
/-- What it latched. -/
def latched (w : Word) : Latched := { word := w, arg0 := 0#32, arg1 := 0#32 }
/-- A BUSY core with a RESULT read and, behind it, two STATUS reads waiting. -/
def polled : State := { accepted 0x00000016#32 with bus := [rdAt 0x02C, rdAt 0x010, rdAt 0x010] }
/-- An IDLE core with one access waiting. -/
def waiting (a : BusAccess) : State := { State.reset with bus := [a] }
/-- A core with ERR set by a first fault. -/
def faultedOnce : State := { State.reset with err := true, errCause := .badShape, errCmd := 0x00000310#32 }
/-- A prepared module whose block size is BLOCK_MAX. -/
def preparedMax : State := { prepared1 0#2 with mod.blockSize := BitVec.ofNat 32 Config.blockMax }
/-- A window of one word, the last of DLY. -/
def lastWindow : State := { busyWith 0 0 with dlyBase := BitVec.ofNat 32 (Config.dlySize - 1), dlyLen := 1#32 }
/-- A window one word too long. -/
def longWindow : State := { busyWith 0 0 with dlyBase := BitVec.ofNat 32 Config.dlySize, dlyLen := 1#32 }

theorem test_dlySize_bounds : 4 ≤ Config.dlySize ∧ Config.dlySize ≤ 32768 := by
  have := Config.dlySizeIndex.isLt
  unfold Config.dlySize
  omega

theorem test_blockMax_bounds : 1 ≤ Config.blockMax ∧ Config.blockMax ≤ 1024 := by
  have := Config.blockMaxIndex.isLt
  unfold Config.blockMax
  omega

theorem test_numDist_bounds : 1 ≤ Config.numDist ∧ Config.numDist ≤ 255 := by
  have := Config.numDistIndex.isLt
  unfold Config.numDist
  omega

theorem test_meets_DecodeEncodeRoundTrip :
    (Instr.oscSetShape 15).wellFormed = true ∧ (Instr.fftTwgen 0 true).wellFormed = true ∧ Instr.nop.wellFormed = true := by
  decide
theorem test_meets_DecodedWordIsItsEncoding :
    decode 0x00001F30#32 = .ok (.fftTwgen 15 true) ∧ decode 0x00000010#32 = .ok (.oscSetShape 0) := by decide
theorem test_meets_StepRunsDecodedCommand :
    (readyToRun (accepted 0x00000016#32) (latched 0x00000016#32) ∧ decode (latched 0x00000016#32).word = .ok .oscNext) ∧
      polled.resetIn = false ∧ polled.seq = some (latched 0x00000016#32) ∧ polled.bus ≠ [] :=
  ⟨⟨⟨rfl, rfl, by decide⟩, by decide⟩, rfl, rfl, by decide⟩
theorem test_meets_IllegalWordsFault :
    readyToRun (accepted 0x00000017#32) (latched 0x00000017#32) ∧
      (∃ s : State, s.resetIn = false ∧ s.seq = some (latched 0x00000017#32) ∧ statusRead ∈ s.bus) ∧
      ¬ inOpcodeTable (latched 0x00000017#32).word := by
  refine ⟨⟨rfl, rfl, by decide⟩,
    ⟨{ polled with seq := some (latched 0x00000017#32) }, rfl, rfl, List.mem_cons_of_mem _ (List.mem_cons_self ..)⟩, ?_⟩
  unfold inOpcodeTable
  decide +kernel
theorem test_meets_CommandWriteIsAcceptedOrDiscarded :
    State.reset.err = false ∧ faultedOnce.err = true ∧
      ∃ t, step (waiting (wrAt 0x020 0x00000016#32)) = .next t ∧ t.cmd ≠ (waiting (wrAt 0x020 0x00000016#32)).cmd :=
  ⟨rfl, rfl, _, rfl, by decide⟩
theorem test_meets_IdleCorePerformsFirstAccess :
    (waiting (rdAt 0x3FFFC)).resetIn = false ∧ (waiting (rdAt 0x3FFFC)).seq = none ∧
      (waiting (rdAt 0x3FFFC)).bus = { offset := 0x3FFFC, width := .word, op := .read } :: [] ∧
      (waiting (wrAt 0x00000 1#32)).bus = { offset := 0x00000, width := .word, op := .write 1#32 } :: [] :=
  ⟨rfl, rfl, rfl, rfl⟩
theorem test_meets_OtherAccessesAreBusErrors :
    ∀ a ∈ [({ offset := 0x3FFFF, width := .byte, op := .read } : BusAccess),
        { offset := 0x00002, width := .word, op := .write 1#32 }, { offset := 0, width := .wider, op := .read }],
      (waiting a).resetIn = false ∧ (waiting a).seq = none ∧ (waiting a).bus = a :: [] ∧ a.offset < 0x40000 ∧
        (a.width ≠ .word ∨ a.offset % 4 ≠ 0) := by
  decide
theorem test_meets_StatusReadCompletesWhileBusy :
    ∃ t, polled.resetIn = false ∧ polled.seq = some (latched 0x00000016#32) ∧ step polled = .next t ∧
      statusRead ∈ polled.bus := ⟨_, rfl, rfl, rfl, by decide⟩
/-- R73, R74: two waiting polls get BUSY = 1, the command then runs, and the RESULT read before them waits on. -/
theorem test_polls :
    ∃ t, step polled = .next t ∧ t.reply = [⟨false, 1#32⟩, ⟨false, 1#32⟩] ∧ t.bus = [rdAt 0x02C] ∧ t.done = true ∧
      t.seq = none := ⟨_, rfl, by decide +kernel, by decide +kernel, by decide, by decide⟩
theorem test_meets_HeldAccessesKeepTheirOrder :
    ∃ (s t : State) (l : Latched), s.bus ≠ [] ∧ s.resetIn = false ∧ s.seq = some l ∧ step s = .next t :=
  ⟨{ accepted 0#32 with bus := [rdAt 0x02C] }, _, latched 0#32, by decide, rfl, rfl, rfl⟩
theorem test_meets_FirstFaultIsKept :
    ∃ t, faultedOnce.err = true ∧ faultedOnce.resetIn = false ∧ faultedOnce.seq = none ∧ step faultedOnce = .next t :=
  ⟨_, rfl, rfl, rfl, rfl⟩
theorem test_meets_StorageReadsBackAlone :
    (0x01000 < 0x01000 + 4 * Config.blockMax) ∧
      (outAddr .right (Config.blockMax - 1) % 4 = 0 ∧ 0x04000 ≤ outAddr .right (Config.blockMax - 1) ∧
        outAddr .right (Config.blockMax - 1) < 0x04000 + 4 * Config.blockMax) ∧
      (dlyAddr (Config.dlySize - 1) % 4 = 0 ∧ 0x20000 ≤ dlyAddr (Config.dlySize - 1) ∧
        dlyAddr (Config.dlySize - 1) < 0x20000 + 4 * Config.dlySize) ∧
      (0x0BFFC % 4 = 0 ∧ 0x0BFFC < 0x0C000) ∧ (0x17FFC % 4 = 0 ∧ 0x17FFC < 0x18000) := by
  have h1 := test_dlySize_bounds
  have h2 := test_blockMax_bounds
  unfold dlyAddr outAddr Channel.index
  refine ⟨?_, ⟨?_, ?_, ?_⟩, ⟨?_, ?_, ?_⟩, by decide, by decide⟩ <;> simp <;> omega
theorem test_meets_ReservedOffsetsReadZero :
    (∀ r ∈ [(0x00100, 0x00FFC), (0x05000, 0x07FFC), (0x0C000, 0x0FFFC), (0x18000, 0x1FFFC), (0x0DC, 0x0FC)],
      r.1 % 4 = 0 ∧ r.2 % 4 = 0 ∧ r.1 < r.2) ∧
      (Config.blockMax < 1024 → inAddr .left Config.blockMax % 4 = 0 ∧ outAddr .right 1023 % 4 = 0) ∧
      (Config.dlySize < 32768 → dlyAddr Config.dlySize % 4 = 0 ∧ dlyAddr 32767 % 4 = 0) := by
  simp [inAddr, outAddr, dlyAddr, Channel.index]
theorem test_meets_EveryCommandCompletesOrFaults :
    (∃ t, exec .nop (busyWith 0 0) = .next t ∧ t.done = true) ∧
      (∃ t, exec .modProcess (busyWith 0 0) = .next t ∧ t.err = true) ∧
      (polled.resetIn = false ∧ polled.seq = some (latched 0x00000016#32)) ∧
      (accepted 0x000000FF#32).resetIn = false ∧ (accepted 0x000000FF#32).seq = some (latched 0x000000FF#32) :=
  ⟨⟨_, rfl, rfl⟩, ⟨_, rfl, rfl⟩, ⟨rfl, rfl⟩, rfl, rfl⟩
theorem test_meets_FaultsAreThoseOfTheTable :
    dueFault (.oscSetShape 3) State.reset = .badShape ∧ dueFault (.oscSetShape 2) State.reset = .none ∧
      dueFault (.fftTwgen 13 false) State.reset = .badFftSize ∧ dueFault (.fftRadix2 12) State.reset = .none ∧
      dueFault .interpNone longWindow = .dlyWindow ∧ dueFault .interpLinear lastWindow = .none ∧
      dueFault .modProcess State.reset = .notPrepared ∧ dueFault .modPrepare (prepared1 0#2) = .alreadyPrepared ∧
      dueFault .modPrepare (busyWith 0#32 (BitVec.ofNat 32 (Config.blockMax + 1))) = .badBlockSize ∧
      dueFault .modPrepare (busyWith 0#32 (BitVec.ofNat 32 Config.blockMax)) = .none := by
  have h1 := test_dlySize_bounds
  have h2 := test_blockMax_bounds
  have e1 : Config.dlySize % 4294967296 = Config.dlySize := by omega
  have e2 : (Config.dlySize - 1) % 4294967296 = Config.dlySize - 1 := by omega
  have e3 : (Config.blockMax + 1) % 4294967296 = Config.blockMax + 1 := by omega
  have e4 : Config.blockMax % 4294967296 = Config.blockMax := by omega
  refine ⟨rfl, rfl, rfl, rfl, ?_, ?_, rfl, by decide +kernel, ?_, ?_⟩ <;>
    simp [dueFault, longWindow, lastWindow, busyWith, State.prepared, State.operands, State.reset, e1, e2, e3, e4] <;> omega
theorem test_meets_OscSetShapeSetsOrFaults : (2 < 3) ∧ (3 ≤ 3) := by decide
theorem test_meets_OscSetFreqDivides :
    flt fZero fOne = true ∧ flt fMinusOne fZero = true ∧ feq 0x80000000#32 fZero = true ∧ fIsNaN 0x7F800001#32 = true := by
  decide
theorem test_meets_AdvancedPhaseIsNormalised :
    fIsFinite (fadd 0x3F7FFFFF#32 0x7F7FFFFF#32) = true ∧ fle 0xB3000000#32 (fadd 0#32 0xB3000000#32) = true ∧
      flt (fadd 0#32 0x80000001#32) fZero = true ∧ fIsFinite (fadd 0x7F7FFFFF#32 0x7F7FFFFF#32) = false ∧
      fIsNaN 0xFFC00000#32 = true := by decide +kernel
theorem test_meets_TriangleWaveRange :
    fle fZero fZero = true ∧ fle fOne fOne = true ∧ fle fZero 0x80000000#32 = true ∧ fIsNaN canonicalNaN = true := by decide
theorem test_meets_PulseWaveValues :
    fIsNaN 0x7F800001#32 = true ∧ fle fZero 0x80000000#32 = true ∧ flt 0x3EFFFFFF#32 fHalf = true ∧ fle fHalf fHalf = true ∧
      flt 0x3F7FFFFF#32 fOne = true := by decide
theorem test_meets_SineIsCorrectlyRounded :
    fIsFinite 0x3DCCCCCD#32 = true ∧ sineDecided (foldTurn (phaseTurn 0x3DCCCCCD#32)) = true ∧
      foldTurn (phaseTurn 0x3F000000#32) = 0 ∧ foldTurn (phaseTurn 0xBE800000#32) = quarterTurn ∧
      sineDecided (foldTurn (phaseTurn 0x00000001#32)) = true ∧ fMag 0x80000000#32 = 0 ∧ fIsFinite 0x7F800000#32 = false := by
  decide +kernel
/-- The exact points: 0.5 and -1.0 are nonzero multiples of 1/2, 0.25 is 1/4 + 0, and -0.25 is 3/4 - 1. -/
theorem test_meets_SineIsCorrectlyRounded_exact :
    f32Value 0x3F000000#32 = ((1 : ℤ) : ℚ) / 2 ∧ f32Value 0xBF800000#32 = ((-2 : ℤ) : ℚ) / 2 ∧
      f32Value 0x3E800000#32 = 1 / 4 + ((0 : ℤ) : ℚ) ∧ f32Value 0xBE800000#32 = 3 / 4 + ((-1 : ℤ) : ℚ) := by
  decide +kernel
theorem test_meets_OnlyThreeCommandsMoveThePhase : ∃ t, exec .oscSetSr (busyWith 0 0) = .next t := ⟨_, rfl⟩
theorem test_meets_InterpNoneReadsTheTap :
    lastWindow.dlyLen.toNat ≠ 0 ∧ lastWindow.dlyBase.toNat + lastWindow.dlyLen.toNat ≤ Config.dlySize := by
  have h1 := test_dlySize_bounds
  have e2 : (Config.dlySize - 1) % 4294967296 = Config.dlySize - 1 := by omega
  simp [lastWindow, e2]
  omega
theorem test_meets_InterpLinearBlendsTwoTaps :
    lastWindow.dlyLen.toNat ≠ 0 ∧ lastWindow.dlyBase.toNat + lastWindow.dlyLen.toNat ≤ Config.dlySize :=
  test_meets_InterpNoneReadsTheTap
theorem test_meets_InterpHermiteWrapsFourTaps :
    (window4 0 0).dlyLen.toNat ≠ 0 ∧ (window4 0 0).dlyBase.toNat + (window4 0 0).dlyLen.toNat ≤ Config.dlySize :=
  ⟨by decide, test_dlySize_bounds.1⟩
theorem test_meets_TwgenWritesTheTable : 12 ≤ 12 ∧ 2047 < 2 ^ 12 / 2 ∧ 0 < 2 ^ 1 / 2 := by decide
theorem test_meets_InverseTableIsTheConjugate :
    (∃ t u, exec (.fftTwgen 12 false) State.reset = .next t ∧ exec (.fftTwgen 12 true) State.reset = .next u) ∧
      2047 < 2 ^ 12 / 2 := ⟨⟨_, _, rfl, rfl⟩, by decide⟩
theorem test_meets_TwiddlesAreCorrectlyRounded :
    (12 ≤ 12 ∧ 2047 < 2 ^ 12 / 2) ∧ 0 < 2 ^ 1 / 2 ∧ (1024 < 2 ^ 12 / 2 ∧ 4 * 1024 = 2 ^ 12) ∧
      (1 < 2 ^ 2 / 2 ∧ 4 * 1 = 2 ^ 2) := by decide
theorem test_meets_RadixTwoTransformsInPlace : 0 ≤ 12 ∧ 1 ≤ 12 ∧ 12 ≤ 12 := by decide
theorem test_meets_StageComputesEveryButterfly :
    (11 < 12 ∧ 0 < 2 ^ (12 - 11 - 1) ∧ 2047 < 2 ^ 11) ∧ (0 < 12 ∧ 2047 < 2 ^ (12 - 0 - 1) ∧ 0 < 2 ^ 0) := by decide
theorem test_meets_BitrevPermutesTheBuffer :
    (1 < 2 ^ 12 ∧ 2048 < 2 ^ 12 ∧ ∀ b, b < 12 → (2048).testBit b = (1).testBit (12 - 1 - b)) ∧
      (0 < 2 ^ 0 ∧ ∀ b, b < 0 → (0).testBit b = (0).testBit (0 - 1 - b)) := by decide
theorem test_meets_BitrevTwiceRestores :
    ∃ t u, exec (.fftBitrev 12) State.reset = .next t ∧ exec (.fftBitrev 12) t = .next u := ⟨_, _, rfl, rfl⟩
theorem test_meets_ModPrepareOnce :
    ((busyWith 0 1#32).collab = none ∧ (busyWith 0 1#32).operands.arg1.toNat ≠ 0 ∧
        (busyWith 0 1#32).operands.arg1.toNat ≤ Config.blockMax) ∧
      (prepared1 0#2).collab ≠ none ∧
      (Config.blockMax < (busyWith 0 (BitVec.ofNat 32 (Config.blockMax + 1))).operands.arg1.toNat) := by
  have h2 := test_blockMax_bounds
  have e3 : (Config.blockMax + 1) % 4294967296 = Config.blockMax + 1 := by omega
  refine ⟨⟨rfl, by decide, h2.1⟩, by decide +kernel, ?_⟩
  simp [busyWith, State.operands, e3]
theorem test_meets_ModProcessFrame :
    (∃ c, (prepared1 0#2).collab = some c) ∧ State.reset.collab = none ∧ fIsNaN 0x7F800001#32 = true :=
  ⟨Option.isSome_iff_exists.mp (by decide +kernel), rfl, by decide⟩
theorem test_meets_BlockIsTwoIndependentChannels :
    (∃ c t, (prepared1 0#2).collab = some c ∧ 1 ≤ (prepared1 0#2).mod.blockSize.toNat ∧
      (prepared1 0#2).mod.blockSize.toNat ≤ Config.blockMax ∧ exec .modProcess (prepared1 0#2) = .next t) ∧
    ∃ c t, preparedMax.collab = some c ∧ 1 ≤ preparedMax.mod.blockSize.toNat ∧
      preparedMax.mod.blockSize.toNat = Config.blockMax ∧ exec .modProcess preparedMax = .next t := by
  obtain ⟨c, hc⟩ := test_meets_ModProcessFrame.1
  have h2 := test_blockMax_bounds
  have e4 : Config.blockMax % 4294967296 = Config.blockMax := by omega
  have hm : preparedMax.collab = some c := hc
  have hb : preparedMax.mod.blockSize.toNat = Config.blockMax := by
    show (BitVec.ofNat 32 Config.blockMax).toNat = _
    simp [e4]
  have h1 : (prepared1 0#2).mod.blockSize.toNat = 1 := by decide +kernel
  refine ⟨⟨c, (State.closeBlock (prepared1 0#2) c).complete, hc, by omega, by omega, ?_⟩,
    ⟨c, (State.closeBlock preparedMax c).complete, hm, by omega, hb, ?_⟩⟩
  · simp only [exec, execModProcess, hc]; rfl
  · simp only [exec, execModProcess, hm]; rfl
theorem test_meets_ChannelPipelineOrder :
    ∃ c : Strip, 0 < c.sh.length ∧ 1 < (c.sh ++ c.sh).length :=
  ⟨{ ef := ⟨0⟩, comp := ⟨0⟩, dn := ⟨0⟩, sh := [⟨0⟩] }, by decide, by decide⟩
theorem test_meets_GateTruthTable :
    (∀ g : BitVec 2, (prepared1 g).collab ≠ none ∧ (prepared1 g).mod.gateIn = g) ∧
      (∃ t, exec .modNextDist (prepared1 0#2) = .next t) ∧
      ∃ t, step { State.reset with resetIn := true, mod.gateOut := 1#2 } = .next t ∧ t.mod.gateOut ≠ 1#2 := by
  refine ⟨fun g => ⟨?_, rfl⟩, ⟨_, rfl⟩, ⟨_, rfl, by decide⟩⟩
  obtain ⟨c, hc⟩ := test_meets_ModProcessFrame.1
  intro h
  have h' : (prepared1 0#2).collab = none := h
  rw [hc] at h'
  cases h'
theorem test_meets_NextDistAdvancesBoth :
    (0#8).toNat < Config.numDist ∧ (BitVec.ofNat 8 (Config.numDist - 1)).toNat < Config.numDist := by
  have h := test_numDist_bounds
  have e : (Config.numDist - 1) % 256 = Config.numDist - 1 := by omega
  simp [e]
  omega
theorem test_meets_OnlyResetUnprepares :
    (∃ t, step { prepared1 0#2 with resetIn := true } = .next t ∧ t.prepared = false) ∧
      (prepared1 0#2).err = false ∧ exec .modPrepare (busyWith 0x473B8000#32 1#32) = .next (ran .modPrepare
        (busyWith 0x473B8000#32 1#32)) := ⟨⟨_, rfl, rfl⟩, by decide +kernel, by rfl⟩
theorem test_meets_CommandsNeverWriteHostRegisters : ∃ t, exec (.fftRadix2 12) (busyWith 0 0) = .next t := ⟨_, rfl⟩
theorem test_meets_OnlyFourCommandsWriteResult :
    ∃ t, exec .modProcess (busyWith 0 0) = .next t ∧ dueFault .modProcess (busyWith 0 0) ≠ .none := ⟨_, rfl, by decide⟩
theorem test_meets_CommandsLeaveInputMemories :
    State.reset.preparedOk ∧ ∃ t, exec (.fftBitrev 12) State.reset = .next t :=
  ⟨(by intro c hc; cases hc), ⟨_, rfl⟩⟩
theorem test_meets_ResetInputResets : ({ preparedMax with resetIn := true } : State).resetIn = true := rfl
theorem test_meets_EveryStepKeepsTheInvariant : (accepted 0#32).Inv ∧ ∃ t, step (accepted 0#32) = .next t := by
  refine ⟨⟨⟨rfl, ?_⟩, ?_, ?_, ⟨rfl, test_numDist_bounds.1⟩, .inr rfl, ?_⟩, ⟨_, rfl⟩⟩
  · intro c hc; cases hc
  · intro l hl; cases hl; exact ⟨rfl, rfl⟩
  · intro h; cases h
  · intro c hc; cases hc
theorem test_meets_ArithmeticIsCorrectlyRounded :
    fIsFinite 0x7F7FFFFF#32 = true ∧ fIsFinite 0x00000001#32 = true ∧ fMag 0x00000001#32 ≠ 0 ∧
      f32Value 0x80000000#32 + f32Value 0x80000000#32 = 0 ∧ f32Value 0x7F7FFFFF#32 + f32Value 0xFF7FFFFF#32 = 0 ∧
      f32Value 0x80000000#32 - f32Value 0x00000000#32 = 0 := by decide +kernel
/-- The signs of zero results that R9 takes from IEEE 754. -/
theorem test_zero_signs :
    fadd 0x80000000#32 0x80000000#32 = 0x80000000#32 ∧ fadd 0x3F800000#32 0xBF800000#32 = 0x00000000#32 ∧
      fsub 0x80000000#32 0x00000000#32 = 0x80000000#32 ∧ fmul 0x80000001#32 0x00000001#32 = 0x80000000#32 ∧
      fdiv 0x80000000#32 0x3F800000#32 = 0x80000000#32 ∧ fdiv 0x3F800000#32 0xFF800000#32 = 0x80000000#32 := by
  decide +kernel
theorem test_meets_SpecialValuesAndCanonicalNaN :
    fIsNaN 0x7F800000#32 = false ∧ fMag 0x7F800000#32 ≠ 0 ∧ fMag 0x80000000#32 = 0 ∧ fIsFinite 0xFF7FFFFF#32 = true ∧
      fIsNaN 0xFF800001#32 = true ∧ fIsNaN (fadd 0x7F800000#32 0xFF800000#32) = true ∧
      fIsNaN (fsub 0x7F800000#32 0x7F800000#32) = true ∧ fIsNaN (fmul 0x80000000#32 0x7F800000#32) = true ∧
      fIsNaN (fdiv 0x00000000#32 0x80000000#32) = true ∧ fIsNaN (ffloor 0x7FFFFFFF#32) = true := by decide +kernel
theorem test_meets_FloorIsExact :
    fIsFinite 0xBF000000#32 = true ∧ fMag 0x80000000#32 = 0 ∧ fIsInf 0xFF800000#32 = true ∧ fIsNaN 0x7FFFFFFF#32 = true := by
  decide
theorem test_meets_ComparisonsAreNumerical :
    fIsNaN 0xFF800000#32 = false ∧ fIsNaN 0x7F7FFFFF#32 = false ∧ fIsNaN 0x7FC00000#32 = true := by decide

end Sys2Proof.Tests
end

/-! Binary32 arithmetic (R8 to R13): O57 to O60. A value is a sign and a magnitude, its bits 30:0, and the magnitudes stand for
integers of units of 2^-149 in strictly increasing order (`magUnits`). Rounding, comparison and floor are facts about that one
increasing function. -/

namespace Sys2Proof.Machine

/-! ### A pattern as its sign and its bits 30:0 -/

theorem fMag_eq_mod (a : F32) : fMag a = a.toNat % 2 ^ 31 := by
  simp [fMag]

theorem fMag_lt (a : F32) : fMag a < 2 ^ 31 := by
  rw [fMag_eq_mod]
  exact Nat.mod_lt _ (by decide)

theorem fSign_eq_decide (a : F32) : fSign a = decide (2 ^ 31 ≤ a.toNat) := by
  rw [fSign, ← BitVec.msb_eq_getLsbD_last (x := a), BitVec.msb_eq_decide]

theorem fPack_toNat {m : Nat} (neg : Bool) (h : m < 2 ^ 31) :
    (fPack neg m).toNat = (if neg then 2 ^ 31 else 0) + m := by
  rw [fPack, BitVec.toNat_ofNat, Nat.mod_eq_of_lt]
  split <;> omega

theorem fMag_fPack {m : Nat} (neg : Bool) (h : m < 2 ^ 31) : fMag (fPack neg m) = m := by
  rw [fMag_eq_mod, fPack_toNat neg h]
  split <;> omega

theorem fSign_fPack {m : Nat} (neg : Bool) (h : m < 2 ^ 31) : fSign (fPack neg m) = neg := by
  rw [fSign_eq_decide, fPack_toNat neg h]
  cases neg
  · simpa using h
  · simp

theorem fPack_fSign_fMag (a : F32) : fPack (fSign a) (fMag a) = a := by
  apply BitVec.eq_of_toNat_eq
  have hlt := a.isLt
  rw [fPack_toNat _ (fMag_lt a), fSign_eq_decide, fMag_eq_mod]
  by_cases hneg : 2 ^ 31 ≤ a.toNat
  · rw [decide_eq_true hneg, if_pos rfl]
    omega
  · rw [decide_eq_false hneg, if_neg (by decide)]
    omega

theorem eq_fPack_iff {m : Nat} {a : F32} {neg : Bool} (h : m < 2 ^ 31) :
    a = fPack neg m ↔ fSign a = neg ∧ fMag a = m := by
  constructor
  · rintro rfl
    exact ⟨fSign_fPack neg h, fMag_fPack neg h⟩
  · rintro ⟨rfl, rfl⟩
    exact (fPack_fSign_fMag a).symm

theorem negZero_eq_fPack : (0x80000000#32 : F32) = fPack true 0 := by decide
theorem posZero_eq_fPack : (0x00000000#32 : F32) = fPack false 0 := by decide

theorem getLsbD_zero_fPack {m : Nat} (neg : Bool) (h : m < 2 ^ 31) (heven : m % 2 = 0) :
    (fPack neg m).getLsbD 0 = false := by
  rw [BitVec.getLsbD, Nat.testBit_zero, fPack_toNat neg h]
  cases neg <;> simp <;> omega

theorem fMag_fneg (a : F32) : fMag (fneg a) = fMag a := by
  rw [fMag, fMag, fneg, BitVec.extractLsb'_xor]
  simp

theorem fSign_fneg (a : F32) : fSign (fneg a) = !fSign a := by
  simp [fSign, fneg]

/-! ### The kinds of a pattern -/

theorem fIsInf_iff {a : F32} : fIsInf a = true ↔ fMag a = 0x7F800000 := by simp [fIsInf]
theorem fIsFinite_iff {a : F32} : fIsFinite a = true ↔ fMag a < 0x7F800000 := by simp [fIsFinite]

theorem fIsNaN_of_finite {a : F32} (h : fIsFinite a = true) : fIsNaN a = false := by
  simp only [fIsFinite, fIsNaN, decide_eq_true_eq, decide_eq_false_iff_not] at *
  omega

theorem fIsInf_of_finite {a : F32} (h : fIsFinite a = true) : fIsInf a = false := by
  simp only [fIsFinite, fIsInf, decide_eq_true_eq, decide_eq_false_iff_not] at *
  omega

theorem fIsFinite_of_zero {a : F32} (h : fMag a = 0) : fIsFinite a = true := by
  rw [fIsFinite, h]; rfl

theorem fIsFinite_fneg (a : F32) : fIsFinite (fneg a) = fIsFinite a := by
  rw [fIsFinite, fIsFinite, fMag_fneg]

@[simp] theorem fIsNaN_fneg (a : F32) : fIsNaN (fneg a) = fIsNaN a := by rw [fIsNaN, fIsNaN, fMag_fneg]

/-! ### Magnitudes in units of 2^-149 -/

/-- The units of 2^-149 the bits 30:0 stand for: `fUnits` as a function of `fMag`. It is taken past the finite patterns too,
as if the exponent had no largest value. -/
def magUnits (m : Nat) : Nat :=
  if m / 2 ^ 23 = 0 then m % 2 ^ 23 else (2 ^ 23 + m % 2 ^ 23) * 2 ^ (m / 2 ^ 23 - 1)

theorem fUnits_eq_magUnits (a : F32) : fUnits a = magUnits (fMag a) := by
  have hexp : fExp a = fMag a / 2 ^ 23 := by
    rw [fExp, fMag_eq_mod, BitVec.extractLsb'_toNat, Nat.shiftRight_eq_div_pow]
    omega
  have hfrac : fFrac a = fMag a % 2 ^ 23 := by
    rw [fFrac, fMag_eq_mod, BitVec.extractLsb'_toNat, Nat.shiftRight_eq_div_pow]
    omega
  rw [fUnits, magUnits, hexp, hfrac]

/-- A significand `w` at exponent `k`. The implicit bit of `w` carries into the exponent field, and so does the overflow of
`w = 2 ^ 24`. -/
theorem magUnits_pattern {k w : Nat} (hlow : k = 0 ∨ 2 ^ 23 ≤ w) (hhigh : w ≤ 2 ^ 24) :
    magUnits (k * 2 ^ 23 + w) = w * 2 ^ k := by
  rcases lt_or_ge w (2 ^ 23) with hsub | hnorm
  · obtain rfl : k = 0 := by omega
    rw [magUnits, if_pos (by omega)]
    omega
  rcases hhigh.lt_or_eq with hlt | rfl
  · have hexp : (k * 2 ^ 23 + w) / 2 ^ 23 = k + 1 := by omega
    have hfrac : 2 ^ 23 + (k * 2 ^ 23 + w) % 2 ^ 23 = w := by omega
    rw [magUnits, hexp, hfrac, if_neg (by omega), Nat.add_sub_cancel]
  · have hexp : (k * 2 ^ 23 + 2 ^ 24) / 2 ^ 23 = k + 1 + 1 := by omega
    have hfrac : 2 ^ 23 + (k * 2 ^ 23 + 2 ^ 24) % 2 ^ 23 = 2 ^ 23 := by omega
    rw [magUnits, hexp, hfrac, if_neg (by omega), Nat.add_sub_cancel, pow_succ]
    ring

/-- Every magnitude is a significand below `2 ^ 24` at some exponent. -/
theorem exists_pattern (m : Nat) :
    ∃ k w, m = k * 2 ^ 23 + w ∧ (k = 0 ∨ 2 ^ 23 ≤ w) ∧ w < 2 ^ 24 :=
  ⟨m / 2 ^ 23 - 1, m - (m / 2 ^ 23 - 1) * 2 ^ 23, by omega, by omega, by omega⟩

theorem magUnits_strictMono : StrictMono magUnits := by
  refine strictMono_nat_of_lt_succ fun m => ?_
  obtain ⟨k, w, rfl, hlow, hlt⟩ := exists_pattern m
  rw [magUnits_pattern hlow hlt.le, add_assoc, magUnits_pattern (by omega) hlt]
  exact Nat.mul_lt_mul_of_pos_right (Nat.lt_succ_self w) (by positivity)

theorem magUnits_zero : magUnits 0 = 0 := by decide

theorem magUnits_eq_zero_iff {m : Nat} : magUnits m = 0 ↔ m = 0 := by
  rw [← magUnits_strictMono.injective.eq_iff (a := m) (b := 0), magUnits_zero]

/-- The pattern of the infinities stands for the magnitude next after the largest finite one. -/
theorem magUnits_infinity : magUnits 0x7F800000 = 2 ^ 24 * 2 ^ 253 :=
  magUnits_pattern (k := 253) (w := 2 ^ 24) (by decide) (by decide)

/-! ### Values as sign and magnitude -/

/-- The number 1 or -1 of a sign bit. -/
def signFactor (neg : Bool) : ℚ := if neg then -1 else 1

theorem abs_signFactor (neg : Bool) : |signFactor neg| = 1 := by cases neg <;> simp [signFactor]

theorem signFactor_xor (a b : Bool) : signFactor (a != b) = signFactor a * signFactor b := by
  cases a <;> cases b <;> simp [signFactor]

theorem f32Value_eq (a : F32) : f32Value a = signFactor (fSign a) * (magUnits (fMag a) / 2 ^ 149) := by
  rw [f32Value, fSigned, fUnits_eq_magUnits, signFactor]
  split
  · push_cast; ring
  · push_cast; ring

theorem f32Value_fPack {m : Nat} (neg : Bool) (h : m < 2 ^ 31) :
    f32Value (fPack neg m) = signFactor neg * (magUnits m / 2 ^ 149) := by
  rw [f32Value_eq, fSign_fPack neg h, fMag_fPack neg h]

theorem f32Value_fneg (a : F32) : f32Value (fneg a) = -f32Value a := by
  rw [f32Value_eq, f32Value_eq, fSign_fneg, fMag_fneg]
  cases fSign a <;> simp [signFactor]

theorem f32Value_eq_zero_iff {a : F32} : f32Value a = 0 ↔ fMag a = 0 := by
  have h : signFactor (fSign a) ≠ 0 := by cases fSign a <;> simp [signFactor]
  simp [f32Value_eq, h, magUnits_eq_zero_iff]

theorem fSigned_eq_zero_iff {a : F32} : fSigned a = 0 ↔ fMag a = 0 := by
  rw [fSigned, fUnits_eq_magUnits, ← magUnits_eq_zero_iff]
  split <;> omega

/-! ### Rounding to the nearest magnitude (R9) -/

/-- The magnitude `p` is the one nearest to `x` units of 2^-149, a tie to the even one. The magnitudes from 0x7F800000 on count
as numbers here, as if the exponent were unbounded: R9 decides overflow after rounding. -/
def isNearestMag (p : Nat) (x : ℚ) : Prop :=
  ∀ c : Nat, |(magUnits p : ℚ) - x| ≤ |(magUnits c : ℚ) - x| ∧
    (c ≠ p → |(magUnits c : ℚ) - x| = |(magUnits p : ℚ) - x| → p % 2 = 0)

/-- Of the two magnitudes around `x` it is enough to take the nearer one: every other magnitude is farther than one of them. -/
theorem isNearestMag_of_between {n p : Nat} {x : ℚ} (hp : p = n ∨ p = n + 1)
    (hlo : |(magUnits p : ℚ) - x| ≤ x - magUnits n) (hhi : |(magUnits p : ℚ) - x| ≤ magUnits (n + 1) - x)
    (htie : x - magUnits n = magUnits (n + 1) - x → p % 2 = 0) : isNearestMag p x := by
  intro c
  have hdist := abs_nonneg ((magUnits p : ℚ) - x)
  rcases Nat.lt_or_ge n c with hc | hc
  · have hle : (magUnits (n + 1) : ℚ) ≤ magUnits c := by exact_mod_cast magUnits_strictMono.monotone hc
    rw [abs_of_nonneg (by linarith : (0 : ℚ) ≤ magUnits c - x)]
    refine ⟨by linarith, fun hne heq => htie ?_⟩
    have hcn : c = n + 1 :=
      magUnits_strictMono.injective (by exact_mod_cast (by linarith : (magUnits c : ℚ) = magUnits (n + 1)))
    obtain rfl : p = n := by omega
    rw [abs_sub_comm, abs_of_nonneg (by linarith), hcn] at heq
    exact heq.symm
  · have hle : (magUnits c : ℚ) ≤ magUnits n := by exact_mod_cast magUnits_strictMono.monotone hc
    rw [abs_sub_comm (magUnits c : ℚ), abs_of_nonneg (by linarith : (0 : ℚ) ≤ x - magUnits c)]
    refine ⟨by linarith, fun hne heq => htie ?_⟩
    have hcn : c = n :=
      magUnits_strictMono.injective (by exact_mod_cast (by linarith : (magUnits c : ℚ) = magUnits n))
    obtain rfl : p = n + 1 := by omega
    rw [abs_of_nonneg (by linarith), hcn] at heq
    exact heq

/-- `rneDiv` takes the floor or its successor, the one on whose side of the middle the quotient lies. -/
theorem rneDiv_cases (n d : Nat) :
    (rneDiv n d = n / d ∧ 2 * (n % d) ≤ d ∨ rneDiv n d = n / d + 1 ∧ d ≤ 2 * (n % d)) ∧
      (2 * (n % d) = d → rneDiv n d % 2 = 0) := by
  unfold rneDiv
  split
  case isTrue hlow => exact ⟨.inl ⟨rfl, hlow.le⟩, fun h => by omega⟩
  case isFalse hlow =>
    split
    case isTrue hhigh => exact ⟨.inr ⟨rfl, hhigh.le⟩, fun h => by omega⟩
    case isFalse hhigh => omega

/-- The same of a quotient `n / den` in steps of `g`: `ρ` is what the floor leaves. -/
theorem rneDiv_mul_cases (n : Nat) {den g : Nat} (hden : 0 < den) (hg : 0 < g) :
    ∃ ρ : ℚ, (n / den : ℚ) = (n / (den * g) : Nat) * g + ρ ∧ 0 ≤ ρ ∧ ρ ≤ g ∧
      (rneDiv n (den * g) = n / (den * g) ∧ 2 * ρ ≤ g ∨ rneDiv n (den * g) = n / (den * g) + 1 ∧ (g : ℚ) ≤ 2 * ρ) ∧
      (2 * ρ = g → rneDiv n (den * g) % 2 = 0) := by
  have hpos : (0 : ℚ) < den := by exact_mod_cast hden
  have hdiv : (n : ℚ) = den * g * (n / (den * g) : Nat) + (n % (den * g) : Nat) := by
    exact_mod_cast (Nat.div_add_mod n (den * g)).symm
  have hmod : ((n % (den * g) : Nat) : ℚ) ≤ g * den := by
    rw [mul_comm (g : ℚ)]
    exact_mod_cast (Nat.mod_lt n (Nat.mul_pos hden hg)).le
  obtain ⟨hcases, htie⟩ := rneDiv_cases n (den * g)
  refine ⟨(n % (den * g) : Nat) / den, ?_, by positivity, (div_le_iff₀ hpos).mpr hmod, hcases.imp ?_ ?_,
    fun h => htie ?_⟩
  · field_simp
    linarith
  · rintro ⟨hr, hhalf⟩
    refine ⟨hr, ?_⟩
    rw [← mul_div_assoc, div_le_iff₀ hpos, mul_comm (g : ℚ)]
    exact_mod_cast hhalf
  · rintro ⟨hr, hhalf⟩
    refine ⟨hr, ?_⟩
    rw [← mul_div_assoc, le_div_iff₀ hpos, mul_comm (g : ℚ)]
    exact_mod_cast hhalf
  · rw [← mul_div_assoc, div_eq_iff hpos.ne', mul_comm (g : ℚ)] at h
    exact_mod_cast h

/-- `dropBits` leaves a significand of 24 bits, or fewer where nothing is dropped. -/
theorem div_dropBits (q : Nat) :
    (dropBits q = 0 ∨ 2 ^ 23 ≤ q / 2 ^ dropBits q) ∧ q / 2 ^ dropBits q < 2 ^ 24 := by
  constructor
  · refine or_iff_not_imp_left.mpr fun hk => ?_
    have hq : q ≠ 0 := by rintro rfl; exact hk (by decide)
    rw [Nat.le_div_iff_mul_le (by positivity), ← pow_add]
    refine le_trans (Nat.pow_le_pow_right (by decide) ?_) (Nat.log2_self_le hq)
    unfold dropBits at hk ⊢
    omega
  · rw [Nat.div_lt_iff_lt_mul (by positivity), ← pow_add]
    refine lt_of_lt_of_le Nat.lt_log2_self (Nat.pow_le_pow_right (by decide) ?_)
    unfold dropBits
    omega

/-- `roundMag` before the bound of overflow. -/
def wideMag (num den : Nat) : Nat :=
  dropBits (num / den) * 2 ^ 23 + rneDiv num (den * 2 ^ dropBits (num / den))

theorem roundMag_eq_min (num den : Nat) : roundMag num den = min 0x7F800000 (wideMag num den) := rfl

/-- The pattern of the rounded significand is the magnitude nearest to the exact quotient. -/
theorem wideMag_isNearest (num : Nat) {den : Nat} (hden : 0 < den) :
    isNearestMag (wideMag num den) (num / den : ℚ) := by
  obtain ⟨hlow, hlt⟩ := div_dropBits (num / den)
  rw [Nat.div_div_eq_div_mul] at hlow hlt
  unfold wideMag
  generalize dropBits (num / den) = k at hlow hlt ⊢
  obtain ⟨ρ, hx, hρ, hρg, hcases, htie⟩ := rneDiv_mul_cases num hden (g := 2 ^ k) (by positivity)
  have hn := magUnits_pattern hlow hlt.le
  have hn' : magUnits (k * 2 ^ 23 + num / (den * 2 ^ k) + 1) = (num / (den * 2 ^ k) + 1) * 2 ^ k := by
    rw [add_assoc, magUnits_pattern (by omega) hlt]
  push_cast at hx hρg hcases htie
  have hup : (magUnits (k * 2 ^ 23 + num / (den * 2 ^ k) + 1) : ℚ) - num / den = 2 ^ k - ρ := by
    rw [hn', hx]; push_cast; ring
  have hdown : (num / den : ℚ) - magUnits (k * 2 ^ 23 + num / (den * 2 ^ k)) = ρ := by
    rw [hn, hx]; push_cast; ring
  have heven : ρ = 2 ^ k - ρ → (k * 2 ^ 23 + rneDiv num (den * 2 ^ k)) % 2 = 0 := fun h => by
    have := htie (by linarith)
    omega
  rcases hcases with ⟨hr, hhalf⟩ | ⟨hr, hhalf⟩
  · refine isNearestMag_of_between (.inl (by rw [hr])) ?_ ?_ (by rwa [hup, hdown])
    all_goals rw [hr, abs_sub_comm, hdown, abs_of_nonneg hρ]
    rw [hup]; linarith
  · refine isNearestMag_of_between (.inr (by rw [hr, add_assoc])) ?_ ?_ (by rwa [hup, hdown])
    all_goals rw [hr, ← add_assoc, hup, abs_of_nonneg (by linarith)]
    rw [hdown]; linarith

/-! ### Overflow (R9) -/

/-- The bound of R9 is the middle of the largest finite magnitude and the one after it. -/
theorem overflowBound_units :
    overflowBound * 2 ^ 149 = ((magUnits 0x7F7FFFFF : ℚ) + magUnits 0x7F800000) / 2 := by
  have hmax : magUnits 0x7F7FFFFF = (2 ^ 24 - 1) * 2 ^ 253 :=
    magUnits_pattern (k := 253) (w := 2 ^ 24 - 1) (by decide) (by decide)
  rw [hmax, magUnits_infinity, overflowBound]
  norm_num

/-- Overflow shows after rounding: a tie at the bound goes up, since the largest finite magnitude is odd. -/
theorem isNearestMag_lt_infinity_iff {p : Nat} {x : ℚ} (hp : isNearestMag p x) :
    p < 0x7F800000 ↔ x < overflowBound * 2 ^ 149 := by
  have hgap : (magUnits 0x7F7FFFFF : ℚ) < magUnits 0x7F800000 := by
    exact_mod_cast magUnits_strictMono (by decide : 0x7F7FFFFF < 0x7F800000)
  rw [overflowBound_units]
  constructor
  · intro hlt
    by_contra hx
    have hle : (magUnits p : ℚ) ≤ magUnits 0x7F7FFFFF := by
      exact_mod_cast magUnits_strictMono.monotone (Nat.le_pred_of_lt hlt)
    obtain ⟨hnear, htie⟩ := hp 0x7F800000
    have hdist : |(magUnits p : ℚ) - x| = x - magUnits p := by rw [abs_sub_comm, abs_of_nonneg (by linarith)]
    have hnext : |(magUnits 0x7F800000 : ℚ) - x| ≤ x - magUnits 0x7F7FFFFF :=
      abs_le.mpr ⟨by linarith, by linarith⟩
    have hmax : p = 0x7F7FFFFF :=
      magUnits_strictMono.injective (by exact_mod_cast (by linarith : (magUnits p : ℚ) = magUnits 0x7F7FFFFF))
    have heven := htie (by omega) (le_antisymm (by rw [hdist, hmax]; exact hnext) hnear)
    omega
  · intro hx
    by_contra hge
    have hle : (magUnits 0x7F800000 : ℚ) ≤ magUnits p := by
      exact_mod_cast magUnits_strictMono.monotone (not_lt.mp hge)
    have hmax : |(magUnits 0x7F7FFFFF : ℚ) - x| < magUnits 0x7F800000 - x :=
      abs_lt.mpr ⟨by linarith, by linarith⟩
    linarith [(hp 0x7F7FFFFF).1, le_abs_self ((magUnits p : ℚ) - x)]

/-! ### Rounding to the nearest value (R9) -/

/-- On the side of `c`'s own sign the distance of the values is the distance of the magnitudes. -/
theorem abs_f32Value_sub_of_same {c : F32} {neg : Bool} (h : fSign c = neg) (x : ℚ) :
    |f32Value c - signFactor neg * (x / 2 ^ 149)| = |(magUnits (fMag c) : ℚ) - x| / 2 ^ 149 := by
  rw [f32Value_eq, h, ← mul_sub, ← sub_div, abs_mul, abs_signFactor, one_mul, abs_div,
    abs_of_pos (by positivity : (0 : ℚ) < 2 ^ 149)]

/-- On the other side of zero the magnitudes add up. -/
theorem abs_f32Value_sub_of_opposite {c : F32} {neg : Bool} (h : fSign c ≠ neg) {x : ℚ} (hx : 0 ≤ x) :
    |f32Value c - signFactor neg * (x / 2 ^ 149)| = (magUnits (fMag c) + x) / 2 ^ 149 := by
  have hopp : signFactor (fSign c) = -signFactor neg := by
    rw [Bool.eq_not_of_ne h]
    cases neg <;> simp [signFactor]
  rw [f32Value_eq, hopp, neg_mul, ← neg_add', abs_neg, ← mul_add, ← add_div, abs_mul, abs_signFactor, one_mul,
    abs_of_nonneg (by positivity)]

/-- The nearest magnitude, if finite, gives the nearest value: a value of the other sign is no nearer than zero. -/
theorem isNearestEven_fPack {p : Nat} {x : ℚ} (neg : Bool) (hx : 0 ≤ x) (hp : isNearestMag p x)
    (hfin : p < 0x7F800000) : isNearestEven (fPack neg p) (signFactor neg * (x / 2 ^ 149)) := by
  have hp31 : p < 2 ^ 31 := by omega
  have hpos : (0 : ℚ) < 2 ^ 149 := by positivity
  refine ⟨by rw [fIsFinite_iff, fMag_fPack neg hp31]; exact hfin, fun c _ => ?_⟩
  rw [abs_f32Value_sub_of_same (fSign_fPack neg hp31), fMag_fPack neg hp31]
  by_cases hs : fSign c = neg
  · rw [abs_f32Value_sub_of_same hs, div_le_div_iff_of_pos_right hpos, div_left_inj' hpos.ne']
    obtain ⟨hle, htie⟩ := hp (fMag c)
    refine ⟨hle, fun hne heq => getLsbD_zero_fPack neg hp31 (htie (fun hmag => hne ?_) heq)⟩
    rw [← hmag, ← hs, fPack_fSign_fMag]
  · rw [abs_f32Value_sub_of_opposite hs hx, div_le_div_iff_of_pos_right hpos, div_left_inj' hpos.ne']
    obtain ⟨hzero, htie⟩ := hp 0
    rw [magUnits_zero, Nat.cast_zero, zero_sub, abs_neg, abs_of_nonneg hx] at hzero htie
    have hc : (0 : ℚ) ≤ magUnits (fMag c) := Nat.cast_nonneg _
    refine ⟨by linarith, fun hne heq => getLsbD_zero_fPack neg hp31 (htie (fun hp0 => hne ?_) (by linarith))⟩
    have hc0 : (magUnits (fMag c) : ℚ) = 0 := by linarith
    rw [f32Value_eq_zero_iff.mpr (magUnits_eq_zero_iff.mp (by exact_mod_cast hc0)),
      f32Value_eq_zero_iff.mpr (by rw [fMag_fPack neg hp31, hp0])]

theorem roundMag_lt (num den : Nat) : roundMag num den < 2 ^ 31 :=
  lt_of_le_of_lt (min_le_left _ _) (by decide)

theorem fSign_roundUnits (neg : Bool) (num den : Nat) : fSign (roundUnits neg num den) = neg :=
  fSign_fPack neg (roundMag_lt num den)

/-- Every rounding of the model, at finite results and at overflow (R9). -/
theorem roundUnits_isRounded (neg : Bool) (num : Nat) {den : Nat} (hden : 0 < den) :
    isRounded (roundUnits neg num den) (signFactor neg * ((num : ℚ) / den / 2 ^ 149)) := by
  have hnear := wideMag_isNearest num hden
  have hx : (0 : ℚ) ≤ (num : ℚ) / den := by positivity
  have habs : |signFactor neg * ((num : ℚ) / den / 2 ^ 149)| = (num : ℚ) / den / 2 ^ 149 := by
    rw [abs_mul, abs_signFactor, one_mul, abs_of_nonneg (by positivity)]
  have hfinite : wideMag num den < 0x7F800000 ↔ (num : ℚ) / den / 2 ^ 149 < overflowBound := by
    rw [isNearestMag_lt_infinity_iff hnear, div_lt_iff₀ (by positivity : (0 : ℚ) < 2 ^ 149)]
  unfold isRounded
  rw [habs, roundUnits, roundMag_eq_min]
  split
  case isTrue hlt =>
    rw [min_eq_right (hfinite.mpr hlt).le]
    exact isNearestEven_fPack neg hx hnear (hfinite.mpr hlt)
  case isFalse hover =>
    have hpos : 0 < (num : ℚ) / den / 2 ^ 149 := by
      refine lt_of_lt_of_le ?_ (not_lt.mp hover)
      unfold overflowBound
      norm_num
    have hneg : decide (signFactor neg * ((num : ℚ) / den / 2 ^ 149) < 0) = neg := by
      cases neg
      · simpa [signFactor] using hpos.le
      · simpa [signFactor] using hpos
    rw [min_eq_left (not_lt.mp (mt hfinite.mp hover)), hneg, fInf]

/-! ### The primitives on finite operands -/

theorem fadd_of_finite {a b : F32} (ha : fIsFinite a = true) (hb : fIsFinite b = true) :
    fadd a b = if fSigned a + fSigned b = 0 then fPack (fSign a && fSign b) 0
      else roundUnits (decide (fSigned a + fSigned b < 0)) (fSigned a + fSigned b).natAbs 1 := by
  simp [fadd, fIsNaN_of_finite, fIsInf_of_finite, ha, hb]

theorem fmul_of_finite {a b : F32} (ha : fIsFinite a = true) (hb : fIsFinite b = true) :
    fmul a b = roundUnits (fSign a != fSign b) (fUnits a * fUnits b) (2 ^ 149) := by
  simp [fmul, fIsNaN_of_finite, fIsInf_of_finite, ha, hb]

theorem fdiv_of_finite {a b : F32} (ha : fIsFinite a = true) (hb : fIsFinite b = true) (hb0 : fMag b ≠ 0) :
    fdiv a b = roundUnits (fSign a != fSign b) (fUnits a * 2 ^ 149) (fUnits b) := by
  simp [fdiv, fIsNaN_of_finite, fIsInf_of_finite, ha, hb, hb0]

theorem f32Value_add_eq_zero_iff {a b : F32} : f32Value a + f32Value b = 0 ↔ fSigned a + fSigned b = 0 := by
  rw [f32Value, f32Value, ← add_div, div_eq_zero_iff, or_iff_left (by positivity)]
  norm_cast

theorem roundUnits_zero (neg : Bool) : roundUnits neg 0 1 = fPack neg 0 := by
  rw [roundUnits, show roundMag 0 1 = 0 by decide]

theorem signFactor_mul_natAbs (z : ℤ) : signFactor (decide (z < 0)) * (z.natAbs : ℚ) = z := by
  rw [Nat.cast_natAbs, signFactor]
  by_cases hz : z < 0
  · rw [abs_of_neg hz]; simp [hz]
  · rw [abs_of_nonneg (not_lt.mp hz)]; simp [hz]

theorem fadd_isRounded {a b : F32} (ha : fIsFinite a = true) (hb : fIsFinite b = true) :
    isRounded (fadd a b) (f32Value a + f32Value b) := by
  rw [fadd_of_finite ha hb]
  split
  case isTrue hzero =>
    have h := roundUnits_isRounded (fSign a && fSign b) 0 one_pos
    rwa [roundUnits_zero, Nat.cast_zero, zero_div, zero_div, mul_zero, ← f32Value_add_eq_zero_iff.mpr hzero] at h
  case isFalse =>
    have h := roundUnits_isRounded (decide (fSigned a + fSigned b < 0)) (fSigned a + fSigned b).natAbs one_pos
    rwa [Nat.cast_one, div_one, ← mul_div_assoc, signFactor_mul_natAbs, Int.cast_add, add_div] at h

theorem fsub_isRounded {a b : F32} (ha : fIsFinite a = true) (hb : fIsFinite b = true) :
    isRounded (fsub a b) (f32Value a - f32Value b) := by
  rw [fsub, sub_eq_add_neg, ← f32Value_fneg]
  exact fadd_isRounded ha (by rw [fIsFinite_fneg, hb])

theorem fmul_isRounded {a b : F32} (ha : fIsFinite a = true) (hb : fIsFinite b = true) :
    isRounded (fmul a b) (f32Value a * f32Value b) := by
  have h := roundUnits_isRounded (fSign a != fSign b) (fUnits a * fUnits b) (Nat.two_pow_pos 149)
  rw [fmul_of_finite ha hb]
  convert h using 1
  rw [f32Value_eq, f32Value_eq, signFactor_xor, fUnits_eq_magUnits, fUnits_eq_magUnits]
  push_cast
  ring

theorem fdiv_isRounded {a b : F32} (ha : fIsFinite a = true) (hb : fIsFinite b = true) (hb0 : fMag b ≠ 0) :
    isRounded (fdiv a b) (f32Value a / f32Value b) := by
  have hpos : 0 < fUnits b := Nat.pos_of_ne_zero (by rwa [fUnits_eq_magUnits, Ne, magUnits_eq_zero_iff])
  have h := roundUnits_isRounded (fSign a != fSign b) (fUnits a * 2 ^ 149) hpos
  rw [fdiv_of_finite ha hb hb0]
  convert h using 1
  have hsign : (signFactor (fSign b))⁻¹ = signFactor (fSign b) := by cases fSign b <;> simp [signFactor]
  rw [f32Value_eq, f32Value_eq, signFactor_xor, ← fUnits_eq_magUnits, ← fUnits_eq_magUnits, div_eq_mul_inv, mul_inv, hsign,
    Nat.cast_mul, Nat.cast_pow, Nat.cast_ofNat]
  field_simp

/-- An exact zero sum is -0 for two operands -0, else +0 (R9). -/
theorem fadd_of_zero_sum {a b : F32} (ha : fIsFinite a = true) (hb : fIsFinite b = true)
    (hzero : f32Value a + f32Value b = 0) :
    fadd a b = if a = 0x80000000#32 ∧ b = 0x80000000#32 then 0x80000000#32 else 0x00000000#32 := by
  have hsum := f32Value_add_eq_zero_iff.mp hzero
  have hboth : (fSign a && fSign b) = true ↔ a = 0x80000000#32 ∧ b = 0x80000000#32 := by
    rw [Bool.and_eq_true, negZero_eq_fPack, eq_fPack_iff (by decide), eq_fPack_iff (by decide), ← fSigned_eq_zero_iff,
      ← fSigned_eq_zero_iff]
    refine ⟨fun ⟨hsa, hsb⟩ => ?_, fun ⟨⟨hsa, _⟩, hsb, _⟩ => ⟨hsa, hsb⟩⟩
    have hna : fSigned a = -(fUnits a : ℤ) := if_pos hsa
    have hnb : fSigned b = -(fUnits b : ℤ) := if_pos hsb
    exact ⟨⟨hsa, by omega⟩, hsb, by omega⟩
  rw [fadd_of_finite ha hb, if_pos hsum]
  split
  case isTrue h => rw [hboth.mpr h, negZero_eq_fPack]
  case isFalse h => rw [Bool.eq_false_iff.mpr (mt hboth.mp h), posZero_eq_fPack]

theorem fneg_eq_negZero_iff {a : F32} : fneg a = 0x80000000#32 ↔ a = 0x00000000#32 := by
  rw [negZero_eq_fPack, posZero_eq_fPack, eq_fPack_iff (by decide), eq_fPack_iff (by decide), fSign_fneg, fMag_fneg,
    Bool.not_eq_true']

theorem fsub_of_zero_difference {a b : F32} (ha : fIsFinite a = true) (hb : fIsFinite b = true)
    (hzero : f32Value a - f32Value b = 0) :
    fsub a b = if a = 0x80000000#32 ∧ b = 0x00000000#32 then 0x80000000#32 else 0x00000000#32 := by
  rw [sub_eq_add_neg, ← f32Value_fneg] at hzero
  rw [fsub, fadd_of_zero_sum ha (by rw [fIsFinite_fneg, hb]) hzero]
  simp only [fneg_eq_negZero_iff]

theorem fOfNat_isRounded (n : Nat) : isRounded (fOfNat n) n := by
  have h := roundUnits_isRounded false (n * 2 ^ 149) one_pos
  rw [fOfNat]
  convert h using 1
  rw [Nat.cast_mul, Nat.cast_pow, Nat.cast_ofNat, Nat.cast_one, div_one, mul_div_cancel_right₀ _ (by positivity)]
  simp [signFactor]

theorem f32Value_constants : f32Value fZero = 0 ∧ f32Value fHalf = 1 / 2 ∧ f32Value fOne = 1 := by
  have hzero : fSigned fZero = 0 := by decide
  have hhalf : fSigned fHalf = 2 ^ 148 := by decide
  have hone : fSigned fOne = 2 ^ 149 := by decide
  rw [f32Value, f32Value, f32Value, hzero, hhalf, hone]
  norm_num

/-- Settles O57: every result is one rounding (`roundUnits_isRounded`) of the exact result of the operation. -/
theorem arithmeticIsCorrectlyRounded : Obligations.ArithmeticIsCorrectlyRounded := by
  refine ⟨⟨rfl, rfl, rfl, f32Value_constants⟩, fun a b ha hb => ⟨fadd_isRounded ha hb, fsub_isRounded ha hb,
    fmul_isRounded ha hb, fdiv_isRounded ha hb, fadd_of_zero_sum ha hb, fsub_of_zero_difference ha hb, ?_, fun hb0 => ?_⟩,
    fun n => ⟨fOfNat_isRounded n, fSign_roundUnits _ _ _⟩⟩
  · rw [fmul_of_finite ha hb, fSign_roundUnits]
  · rw [fdiv_of_finite ha hb hb0, fSign_roundUnits]

/-! ### Comparisons (R12) -/

/-- The signed number of units at a place of the numerical order: `fKey` counts places, `fSigned` units. -/
def keyUnits (z : ℤ) : ℤ := if z < 0 then -(magUnits z.natAbs : ℤ) else magUnits z.natAbs

theorem keyUnits_neg (z : ℤ) : keyUnits (-z) = -keyUnits z := by
  rcases lt_trichotomy z 0 with hz | rfl | hz
  · rw [keyUnits, keyUnits, if_neg (by omega), if_pos hz, Int.natAbs_neg, neg_neg]
  · simp [keyUnits, magUnits_zero]
  · rw [keyUnits, keyUnits, if_pos (by omega), if_neg (by omega), Int.natAbs_neg]

theorem keyUnits_natCast (m : Nat) : keyUnits m = magUnits m := if_neg (by omega)

theorem keyUnits_strictMono : StrictMono keyUnits := by
  refine strictMono_of_odd_strictMonoOn_nonneg keyUnits_neg fun x hx y hy hxy => ?_
  lift x to ℕ using hx
  lift y to ℕ using hy
  rw [keyUnits_natCast, keyUnits_natCast]
  exact_mod_cast magUnits_strictMono (by exact_mod_cast hxy)

theorem keyUnits_fKey (a : F32) : keyUnits (fKey a) = fSigned a := by
  rw [fKey, fSigned, fUnits_eq_magUnits]
  split
  · rw [keyUnits_neg, keyUnits_natCast]
  · rw [keyUnits_natCast]

/-- `f32Extended` as a function of the place in the order. -/
def keyExtended (z : ℤ) : WithBot (WithTop ℚ) :=
  if z = -0x7F800000 then ⊥
  else if z = 0x7F800000 then ((⊤ : WithTop ℚ) : WithBot (WithTop ℚ))
  else (((keyUnits z : ℚ) / 2 ^ 149 : ℚ) : WithTop ℚ)

theorem f32Extended_eq_keyExtended (a : F32) : f32Extended a = keyExtended (fKey a) := by
  have hm := fMag_lt a
  rw [f32Extended, keyExtended, keyUnits_fKey, f32Value]
  by_cases hinf : fIsInf a = true
  · rw [if_pos hinf]
    rw [fIsInf_iff] at hinf
    cases hs : fSign a <;> simp [fKey, hs, hinf]
  · rw [if_neg hinf]
    rw [fIsInf_iff] at hinf
    have hkey : fKey a ≠ -0x7F800000 ∧ fKey a ≠ 0x7F800000 := by
      rw [fKey]; split <;> omega
    rw [if_neg hkey.1, if_neg hkey.2]

theorem keyExtended_strictMonoOn : StrictMonoOn keyExtended (Set.Icc (-0x7F800000) 0x7F800000) := by
  intro x hx y hy hxy
  have hx1 : x ≠ 0x7F800000 := by have := hy.2; omega
  have hy1 : y ≠ -0x7F800000 := by have := hx.1; omega
  have hunits : (keyUnits x : ℚ) / 2 ^ 149 < (keyUnits y : ℚ) / 2 ^ 149 := by
    rw [div_lt_div_iff_of_pos_right (by positivity)]
    exact_mod_cast keyUnits_strictMono hxy
  rw [keyExtended, keyExtended, if_neg hx1, if_neg hy1]
  split
  case isTrue => split <;> exact WithBot.bot_lt_coe _
  case isFalse =>
    split
    · exact WithBot.coe_lt_coe.mpr (WithTop.coe_lt_top _)
    · exact WithBot.coe_lt_coe.mpr (WithTop.coe_lt_coe.mpr hunits)

theorem fKey_mem_Icc {a : F32} (h : fIsNaN a = false) : fKey a ∈ Set.Icc (-0x7F800000 : ℤ) 0x7F800000 := by
  rw [fIsNaN, decide_eq_false_iff_not] at h
  rw [Set.mem_Icc, fKey]
  split <;> omega

/-- Settles O60: the places `fKey` compares are ordered as the numbers they stand for (`keyExtended_strictMonoOn`). -/
theorem comparisonsAreNumerical : Obligations.ComparisonsAreNumerical := by
  refine ⟨fun a b ha hb => ?_, fun a b hnan => ?_, by decide⟩
  · have hmono := keyExtended_strictMonoOn
    have hka := fKey_mem_Icc ha
    have hkb := fKey_mem_Icc hb
    rw [f32Extended_eq_keyExtended, f32Extended_eq_keyExtended, hmono.lt_iff_lt hka hkb, hmono.le_iff_le hka hkb,
      hmono.injOn.eq_iff hka hkb]
    simp [flt, fle, feq, ha, hb]
  · rcases hnan with hnan | hnan <;> simp [flt, fle, feq, hnan]

/-! ### The floor (R13) -/

/-- What is a magnitude already is not rounded. -/
theorem roundMag_magUnits {m : Nat} (h : m ≤ 0x7F800000) : roundMag (magUnits m) 1 = m := by
  have hle := (wideMag_isNearest (magUnits m) one_pos m).1
  rw [Nat.cast_one, div_one, sub_self, abs_zero, abs_nonpos_iff, sub_eq_zero, Nat.cast_inj] at hle
  rw [roundMag_eq_min, magUnits_strictMono.injective hle, min_eq_right h]

/-- A significand of at most 24 bits at any exponent is a magnitude: it is shifted up until the leading bit is in place. -/
theorem exists_magUnits_eq {w : Nat} (hw : w ≤ 2 ^ 24) (k : Nat) : ∃ m, magUnits m = w * 2 ^ k := by
  induction k generalizing w with
  | zero => exact ⟨w, by simpa using magUnits_pattern (k := 0) (.inl rfl) hw⟩
  | succ k ih =>
    rcases Nat.lt_or_ge w (2 ^ 23) with hsmall | hlarge
    · obtain ⟨m, hm⟩ := ih (w := 2 * w) (by omega)
      exact ⟨m, by rw [hm, pow_succ]; ring⟩
    · exact ⟨_, magUnits_pattern (.inr hlarge) hw⟩

/-- A value is an integer, or it is below 2^23 in magnitude. -/
theorem dvd_fUnits_or_lt (t : F32) : 2 ^ 149 ∣ fUnits t ∨ fUnits t < 2 ^ 23 * 2 ^ 149 := by
  obtain ⟨k, w, hmag, hlow, hlt⟩ := exists_pattern (fMag t)
  rw [fUnits_eq_magUnits, hmag, magUnits_pattern hlow hlt.le]
  rcases Nat.lt_or_ge k 149 with hk | hk
  · right
    calc w * 2 ^ k < 2 ^ 24 * 2 ^ k := Nat.mul_lt_mul_of_pos_right hlt (by positivity)
      _ ≤ 2 ^ 24 * 2 ^ 148 := Nat.mul_le_mul_left _ (Nat.pow_le_pow_right (by decide) (by omega))
      _ = 2 ^ 23 * 2 ^ 149 := by norm_num
  · exact .inl (Dvd.dvd.mul_left (Nat.pow_dvd_pow 2 hk) w)

/-- So both integers next to a finite value are binary32 values. -/
theorem exists_finite_mag_of_adjacent {t : F32} (ht : fIsFinite t = true) {q : Nat}
    (hq : q = fUnits t / 2 ^ 149 ∨ q = (fUnits t + (2 ^ 149 - 1)) / 2 ^ 149) :
    ∃ m, m < 0x7F800000 ∧ magUnits m = q * 2 ^ 149 := by
  rcases dvd_fUnits_or_lt t with hdvd | hlt
  · exact ⟨fMag t, fIsFinite_iff.mp ht, by rw [← fUnits_eq_magUnits]; omega⟩
  · obtain ⟨m, hm⟩ := exists_magUnits_eq (w := q) (by omega) 149
    refine ⟨m, magUnits_strictMono.lt_iff_lt.mp ?_, hm⟩
    rw [hm, magUnits_infinity]
    omega

/-- An integer among the binary32 values is not rounded. -/
theorem f32Value_roundUnits_integer (neg : Bool) {q m : Nat} (hm : m < 0x7F800000) (hq : magUnits m = q * 2 ^ 149) :
    fIsFinite (roundUnits neg (q * 2 ^ 149) 1) = true ∧
      f32Value (roundUnits neg (q * 2 ^ 149) 1) = signFactor neg * q := by
  have hm31 : m < 2 ^ 31 := by omega
  rw [← hq, roundUnits, roundMag_magUnits hm.le, fIsFinite_iff, fMag_fPack neg hm31, f32Value_fPack neg hm31, hq, Nat.cast_mul,
    Nat.cast_pow, Nat.cast_ofNat, mul_div_cancel_right₀ _ (by positivity)]
  exact ⟨hm, rfl⟩

theorem floor_f32Value (t : F32) : ⌊f32Value t⌋ = fSigned t / 2 ^ 149 := by
  rw [f32Value]
  exact_mod_cast Rat.floor_intCast_div_natCast (fSigned t) (2 ^ 149)

theorem ffloor_of_zero {t : F32} (h : fMag t = 0) : ffloor t = t := by
  simp [ffloor, fIsNaN, h]

theorem ffloor_of_inf {t : F32} (h : fIsInf t = true) : ffloor t = t := by
  simp [ffloor, fIsNaN, h, fIsInf_iff.mp h]

theorem ffloor_of_nan {t : F32} (h : fIsNaN t = true) : ffloor t = canonicalNaN := if_pos h

/-- A finite value other than zero is rounded to an integer towards zero if positive, away from zero if negative. -/
theorem ffloor_of_finite {t : F32} (ht : fIsFinite t = true) (h0 : fMag t ≠ 0) :
    ffloor t = if fSign t then roundUnits true ((fUnits t + (2 ^ 149 - 1)) / 2 ^ 149 * 2 ^ 149) 1
      else roundUnits false (fUnits t / 2 ^ 149 * 2 ^ 149) 1 := by
  simp [ffloor, fIsNaN_of_finite, fIsInf_of_finite, ht, h0]

theorem ffloor_exact {t : F32} (ht : fIsFinite t = true) :
    fIsFinite (ffloor t) = true ∧ f32Value (ffloor t) = ((⌊f32Value t⌋ : ℤ) : ℚ) := by
  by_cases h0 : fMag t = 0
  · rw [ffloor_of_zero h0, f32Value_eq_zero_iff.mpr h0]
    exact ⟨ht, by simp⟩
  rw [ffloor_of_finite ht h0, floor_f32Value]
  split
  case isTrue hs =>
    obtain ⟨m, hm, hq⟩ := exists_finite_mag_of_adjacent ht (.inr rfl)
    obtain ⟨hfin, hval⟩ := f32Value_roundUnits_integer true hm hq
    refine ⟨hfin, ?_⟩
    have hfloor : fSigned t / 2 ^ 149 = -(((fUnits t + (2 ^ 149 - 1)) / 2 ^ 149 : Nat) : ℤ) := by
      rw [fSigned, if_pos hs]
      omega
    rw [hval, hfloor, Int.cast_neg, Int.cast_natCast, signFactor, if_pos rfl, neg_one_mul]
  case isFalse hs =>
    obtain ⟨m, hm, hq⟩ := exists_finite_mag_of_adjacent ht (.inl rfl)
    obtain ⟨hfin, hval⟩ := f32Value_roundUnits_integer false hm hq
    refine ⟨hfin, ?_⟩
    have hfloor : fSigned t / 2 ^ 149 = ((fUnits t / 2 ^ 149 : Nat) : ℤ) := by
      rw [fSigned, if_neg hs]
      omega
    rw [hval, hfloor, Int.cast_natCast, signFactor, if_neg (by decide), one_mul]

/-- Settles O59: the integer next below is a binary32 value, so the one rounding of `ffloor` is exact. -/
theorem floorIsExact : Obligations.FloorIsExact :=
  fun _ => ⟨ffloor_exact, ffloor_of_zero, ffloor_of_inf, ffloor_of_nan⟩

/-! ### Infinite and NaN operands (R9, R10) -/

@[simp] theorem fMag_fInf (b : Bool) : fMag (fInf b) = 0x7F800000 := fMag_fPack b (by decide)
@[simp] theorem fSign_fInf (b : Bool) : fSign (fInf b) = b := fSign_fPack b (by decide)
@[simp] theorem fIsInf_fInf (b : Bool) : fIsInf (fInf b) = true := by simp [fIsInf]
@[simp] theorem fIsNaN_fInf (b : Bool) : fIsNaN (fInf b) = false := by simp [fIsNaN]

@[simp] theorem fneg_fInf (b : Bool) : fneg (fInf b) = fInf (!b) :=
  (eq_fPack_iff (by decide)).mpr ⟨by rw [fSign_fneg, fSign_fInf], by rw [fMag_fneg, fMag_fInf]⟩

theorem fadd_inf_finite (b : Bool) {x : F32} (hx : fIsFinite x = true) : fadd (fInf b) x = fInf b := by
  simp [fadd, fIsNaN_of_finite hx, fIsInf_of_finite hx]

theorem fadd_finite_inf (b : Bool) {x : F32} (hx : fIsFinite x = true) : fadd x (fInf b) = fInf b := by
  simp [fadd, fIsNaN_of_finite hx, fIsInf_of_finite hx]

theorem fadd_inf_inf (b d : Bool) : fadd (fInf b) (fInf d) = if b = d then fInf b else canonicalNaN := by
  cases b <;> cases d <;> simp [fadd]

theorem fsub_inf_finite (b : Bool) {x : F32} (hx : fIsFinite x = true) : fsub (fInf b) x = fInf b :=
  fadd_inf_finite b (by rw [fIsFinite_fneg, hx])

theorem fsub_finite_inf (b : Bool) {x : F32} (hx : fIsFinite x = true) : fsub x (fInf b) = fInf (!b) := by
  rw [fsub, fneg_fInf, fadd_finite_inf (!b) hx]

theorem fsub_inf_inf (b d : Bool) : fsub (fInf b) (fInf d) = if b = d then canonicalNaN else fInf b := by
  rw [fsub, fneg_fInf, fadd_inf_inf]
  cases b <;> cases d <;> rfl

theorem fsub_self_of_finite {x : F32} (hx : fIsFinite x = true) : fsub x x = 0x00000000#32 := by
  rw [fsub_of_zero_difference hx hx (sub_self _), if_neg]
  rintro ⟨rfl, h⟩
  exact absurd h (by decide)

theorem fmul_inf_right {x : F32} (b : Bool) (hx : fIsNaN x = false) :
    fmul x (fInf b) = if fMag x = 0 then canonicalNaN else fInf (fSign x != b) := by
  simp [fmul, hx]

theorem fmul_inf_left {x : F32} (b : Bool) (hx : fIsNaN x = false) :
    fmul (fInf b) x = if fMag x = 0 then canonicalNaN else fInf (b != fSign x) := by
  simp [fmul, hx]

theorem fdiv_inf_finite (b : Bool) {x : F32} (hx : fIsFinite x = true) : fdiv (fInf b) x = fInf (b != fSign x) := by
  simp [fdiv, fIsNaN_of_finite hx, fIsInf_of_finite hx]

theorem fdiv_finite_inf (b : Bool) {x : F32} (hx : fIsFinite x = true) :
    fdiv x (fInf b) = if (fSign x != b) = true then 0x80000000#32 else 0x00000000#32 := by
  have h : fdiv x (fInf b) = fPack (fSign x != b) 0 := by simp [fdiv, fIsNaN_of_finite hx, fIsInf_of_finite hx]
  rw [h]
  cases (fSign x != b) <;> rfl

theorem fdiv_inf_inf (b d : Bool) : fdiv (fInf b) (fInf d) = canonicalNaN := by
  simp [fdiv]

theorem fdiv_zero {x z : F32} (hx : fIsNaN x = false) (hz : fMag z = 0) :
    fdiv x z = if fMag x = 0 then canonicalNaN else fInf (fSign x != fSign z) := by
  have hfin := fIsFinite_of_zero hz
  by_cases hinf : fIsInf x = true
  · simp [fdiv, hx, hinf, fIsInf_iff.mp hinf, fIsNaN_of_finite hfin, fIsInf_of_finite hfin]
  · simp [fdiv, hx, hinf, hz, fIsNaN_of_finite hfin, fIsInf_of_finite hfin]

theorem arithmetic_nan_operand {x y : F32} (h : fIsNaN x = true ∨ fIsNaN y = true) :
    fadd x y = canonicalNaN ∧ fsub x y = canonicalNaN ∧ fmul x y = canonicalNaN ∧ fdiv x y = canonicalNaN := by
  have hor : (fIsNaN x || fIsNaN y) = true := by rwa [Bool.or_eq_true]
  exact ⟨if_pos hor, if_pos (by rwa [fIsNaN_fneg]), if_pos hor, if_pos hor⟩

/-! ### No other NaN (R10) -/

/-- A result that is a number or an infinity, or else the canonical NaN. -/
def isCanonical (v : F32) : Prop := fIsNaN v = true → v = canonicalNaN

theorem isCanonical_canonicalNaN : isCanonical canonicalNaN := fun _ => rfl

theorem isCanonical_of_not_nan {v : F32} (h : fIsNaN v = false) : isCanonical v :=
  fun hv => absurd hv (by rw [h]; decide)

theorem isCanonical_fPack (neg : Bool) {m : Nat} (h : m ≤ 0x7F800000) : isCanonical (fPack neg m) :=
  isCanonical_of_not_nan (by rw [fIsNaN, fMag_fPack neg (by omega)]; exact decide_eq_false (by omega))

theorem isCanonical_roundUnits (neg : Bool) (num den : Nat) : isCanonical (roundUnits neg num den) :=
  isCanonical_fPack neg (min_le_left _ _)

theorem isCanonical_ite {c : Prop} [Decidable c] {v w : F32} (hv : isCanonical v) (hw : isCanonical w) :
    isCanonical (if c then v else w) := by
  split
  · exact hv
  · exact hw

theorem isCanonical_fadd (x y : F32) : isCanonical (fadd x y) := by
  unfold fadd
  split
  case isTrue => exact isCanonical_canonicalNaN
  case isFalse hnan =>
    rw [Bool.or_eq_true, not_or, Bool.not_eq_true, Bool.not_eq_true] at hnan
    obtain ⟨hx, hy⟩ := hnan
    exact isCanonical_ite (isCanonical_ite isCanonical_canonicalNaN (isCanonical_of_not_nan hx))
      (isCanonical_ite (isCanonical_of_not_nan hy)
        (isCanonical_ite (isCanonical_fPack _ (by decide)) (isCanonical_roundUnits _ _ _)))

theorem isCanonical_fmul (x y : F32) : isCanonical (fmul x y) :=
  isCanonical_ite isCanonical_canonicalNaN
    (isCanonical_ite (isCanonical_ite isCanonical_canonicalNaN (isCanonical_fPack _ le_rfl)) (isCanonical_roundUnits _ _ _))

theorem isCanonical_fdiv (x y : F32) : isCanonical (fdiv x y) :=
  isCanonical_ite isCanonical_canonicalNaN
    (isCanonical_ite (isCanonical_ite isCanonical_canonicalNaN (isCanonical_fPack _ le_rfl))
      (isCanonical_ite (isCanonical_fPack _ (by decide))
        (isCanonical_ite (isCanonical_ite isCanonical_canonicalNaN (isCanonical_fPack _ le_rfl))
          (isCanonical_roundUnits _ _ _))))

theorem isCanonical_ffloor (x : F32) : isCanonical (ffloor x) := by
  by_cases hnan : fIsNaN x = true
  · rw [ffloor_of_nan hnan]
    exact isCanonical_canonicalNaN
  · rw [ffloor, if_neg hnan]
    exact isCanonical_ite (isCanonical_of_not_nan (Bool.eq_false_iff.mpr hnan))
      (isCanonical_ite (isCanonical_roundUnits _ _ _) (isCanonical_roundUnits _ _ _))

/-- Settles O58, clause by clause from the equations for zero, infinite and NaN operands. -/
theorem specialValuesAndCanonicalNaN : Obligations.SpecialValuesAndCanonicalNaN := by
  refine ⟨by decide, fun x z hx hx0 hz => ?_, fun x z hx0 hz => ?_, fun _ => fsub_self_of_finite,
    fun b x hx => ⟨fadd_inf_finite b hx, fadd_finite_inf b hx, fsub_inf_finite b hx, fsub_finite_inf b hx,
      fdiv_inf_finite b hx, fdiv_finite_inf b hx⟩,
    fun b => ⟨?_, ?_, ?_, ?_⟩, fdiv_inf_inf, fun b x hx hx0 => ⟨?_, ?_⟩, fun z b hz => ⟨?_, ?_⟩,
    fun _ _ => arithmetic_nan_operand,
    fun x y => ⟨isCanonical_fadd x y, isCanonical_fadd x (fneg y), isCanonical_fmul x y, isCanonical_fdiv x y,
      isCanonical_ffloor x⟩⟩
  · rw [fdiv_zero hx hz, if_neg hx0]
  · rw [fdiv_zero (fIsNaN_of_finite (fIsFinite_of_zero hx0)) hz, if_pos hx0]
  · rw [fadd_inf_inf, if_pos rfl]
  · rw [fadd_inf_inf, if_neg (by simp)]
  · rw [fsub_inf_inf, if_pos rfl]
  · rw [fsub_inf_inf, if_neg (by simp)]
  · rw [fmul_inf_right b hx, if_neg hx0]
  · rw [fmul_inf_left b hx, if_neg hx0]
  · rw [fmul_inf_right b (fIsNaN_of_finite (fIsFinite_of_zero hz)), if_pos hz]
  · rw [fmul_inf_left b (fIsNaN_of_finite (fIsFinite_of_zero hz)), if_pos hz]

end Sys2Proof.Machine

/-! The state and the host's registers (R23 to R52, R68): O5, O7, O13, O16, O19, O49, O50, O51. Three things are said once and
then cited: a command is its table fault or its stage 5 followed by completion (`exec_eq`), what a stage 5 leaves alone
(`HostSide`, RESULT, PREPARED), and an access to a register offset is the register's read or write (`readWindow_reg`,
`writeWindow_reg`). -/

namespace Sys2Proof.Machine

open Sys2Proof

/-! ### A command is its fault, or its work and completion (R86, R168, R172) -/

/-- Stage 5 of OSC_SET_SHAPE (R104); a field that selects no shape does not reach it. -/
def State.selectShape (s : State) (field : Nat) : State :=
  match shapeOfField field with
  | some sh => s.setOsc { s.osc with shape := sh }
  | none => s

/-- Stage 5 of MOD_PROCESS (R156); a module not prepared does not reach it. -/
def State.processBlock (s : State) : State :=
  match s.collab with
  | some c => s.closeBlock c
  | none => s

/-- Stage 5 of R86: what a command whose checks pass does before it completes. -/
def commandWork (i : Instr) (s : State) : State :=
  match i with
  | .nop => s
  | .oscSetShape shape => s.selectShape shape
  | .oscSetSr => s.setOsc { s.osc with sampleRate := s.arg0F32 }
  | .oscSetFreq => s.setOsc { s.osc with increment := fdiv s.arg0F32 s.osc.sampleRate }
  | .oscSetPhase => s.setOsc { s.osc with phase := s.arg0F32 }
  | .oscAddPhase => s.setOsc { s.osc with phase := advancePhase s.osc.phase s.arg0F32 }
  | .oscSetPw => s.setOsc { s.osc with pulseWidth := s.arg0F32 }
  | .oscNext =>
    (s.setOsc { s.osc with phase := advancePhase s.osc.phase s.osc.increment }).setResult
      (wave s.osc.shape s.osc.phase s.osc.pulseWidth)
  | .interpNone => s.setResult (s.tap s.arg0Nat)
  | .interpLinear => s.setResult (linear2 (s.tap s.arg0Nat) (s.tap (s.arg0Nat + 1)) s.arg1F32)
  | .interpHermite => s.setResult (s.hermiteAt (s.arg0Nat + s.dlyLen.toNat))
  | .fftTwgen log2n inv => s.twgen log2n inv
  | .fftRadix2 log2n => s.radix2 log2n
  | .fftBitrev log2n => s.bitrev log2n
  | .modPrepare => s.prepare
  | .modProcess => s.processBlock
  | .modNextDist => s.setMod { s.mod with sel0 := nextSelector s.mod.sel0, sel1 := nextSelector s.mod.sel1 }

/-- A command that ends with the table's cause if there is one and completes otherwise. -/
def faultOrFinish (c : Cause) (s work : State) : Host.Outcome State Fault Refusal :=
  if c = .none then finish work else trap s c

/-- A command of one check. -/
theorem faultOrFinish_check (p : Prop) [Decidable p] {c : Cause} (hc : c ≠ .none) (s work : State) :
    faultOrFinish (if p then c else .none) s work = if p then trap s c else finish work := by
  by_cases hp : p
  · rw [if_pos hp, if_pos hp, faultOrFinish, if_neg hc]
  · rw [if_neg hp, if_neg hp, faultOrFinish, if_pos rfl]

theorem fftCommand_eq (n : Nat) (s : State) (work : State → State) :
    fftCommand n s work = faultOrFinish (if 12 < n then .badFftSize else .none) s (work s) := by
  rw [faultOrFinish_check _ (by decide), fftCommand, Config.log2Nmax]
  by_cases hn : 12 < n
  · rw [if_pos hn, if_neg (Nat.not_le.mpr hn)]
  · rw [if_neg hn, if_pos (Nat.not_lt.mp hn)]

theorem interpolate_eq (s : State) (v : Word) :
    interpolate s v =
      faultOrFinish (if s.dlyLen.toNat = 0 ∨ Config.dlySize < s.dlyBase.toNat + s.dlyLen.toNat then .dlyWindow else .none)
        s (s.setResult v) := by
  have hfits : ¬ s.windowFits = true ↔ s.dlyLen.toNat = 0 ∨ Config.dlySize < s.dlyBase.toNat + s.dlyLen.toNat := by
    simp [State.windowFits, imp_iff_not_or]
  rw [faultOrFinish_check _ (by decide), interpolate, ← ite_not, if_congr hfits rfl rfl]

theorem execOscSetShape_eq (shape : Nat) (s : State) :
    execOscSetShape shape s =
      faultOrFinish (dueFault (.oscSetShape shape) s) s (s.selectShape shape) := by
  match shape with
  | 0 => rfl
  | 1 => rfl
  | 2 => rfl
  | n + 3 => rw [dueFault, faultOrFinish_check _ (by decide), if_pos (by omega)]; rfl

theorem execModPrepare_eq (s : State) :
    execModPrepare s = faultOrFinish (dueFault .modPrepare s) s s.prepare := by
  rw [dueFault, execModPrepare]
  by_cases hp : s.prepared = true
  · rw [if_pos hp, if_pos hp]; rfl
  · rw [if_neg hp, if_neg hp, faultOrFinish_check _ (by decide)]; rfl

theorem execModProcess_eq (s : State) :
    execModProcess s = faultOrFinish (dueFault .modProcess s) s s.processBlock := by
  unfold execModProcess dueFault State.processBlock State.prepared
  cases s.collab with
  | none => rfl
  | some c => rfl

/-- What every command does: the fault the table of R171 gives it, or its work and then completion. -/
theorem exec_eq (i : Instr) (s : State) : exec i s = faultOrFinish (dueFault i s) s (commandWork i s) := by
  cases i with
  | nop | oscSetSr | oscSetFreq | oscSetPhase | oscAddPhase | oscSetPw | oscNext | modNextDist => rfl
  | interpNone | interpLinear | interpHermite => exact interpolate_eq s _
  | fftTwgen | fftRadix2 | fftBitrev => exact fftCommand_eq _ s _
  | oscSetShape shape => exact execOscSetShape_eq shape s
  | modPrepare => exact execModPrepare_eq s
  | modProcess => exact execModProcess_eq s

/-- The same as the two states a command can answer. -/
theorem exec_cases {i : Instr} {s t : State} (h : exec i s = .next t) :
    (dueFault i s ≠ .none ∧ t = s.raiseFault (dueFault i s)) ∨
      (dueFault i s = .none ∧ t = (commandWork i s).complete) := by
  rw [exec_eq, faultOrFinish] at h
  split at h
  case isTrue hdue => exact .inr ⟨hdue, finish_next h⟩
  case isFalse hdue => exact .inl ⟨hdue, trap_next h⟩

/-! ### What no command writes (R23, R68) -/

/-- The part of the state only the host and the platform write: the host's registers, CMD, the bus, the reset input and the count
of resets. -/
structure HostSide where
  arg0 : Word
  arg1 : Word
  cmd : Word
  irqEn : BitVec 2
  dlyBase : Word
  dlyLen : Word
  ctl : Bank F32
  gateIn : BitVec 2
  bus : List BusAccess
  reply : List BusReply
  resetIn : Bool
  epoch : Nat

def State.hostSide (s : State) : HostSide :=
  { arg0 := s.arg0, arg1 := s.arg1, cmd := s.cmd, irqEn := s.irqEn, dlyBase := s.dlyBase, dlyLen := s.dlyLen, ctl := s.ctl,
    gateIn := s.mod.gateIn, bus := s.bus, reply := s.reply, resetIn := s.resetIn, epoch := s.epoch }

@[simp] theorem State.setCollab_hostSide (s : State) (c : Collaborators) : (s.setCollab c).hostSide = s.hostSide := rfl
@[simp] theorem State.complete_hostSide (s : State) : s.complete.hostSide = s.hostSide := rfl
@[simp] theorem State.raiseFault_hostSide (s : State) (c : Cause) : (s.raiseFault c).hostSide = s.hostSide := rfl

theorem State.setMod_hostSide {s : State} {m : ModuleRegs} (h : m.gateIn = s.mod.gateIn) :
    (s.setMod m).hostSide = s.hostSide := by
  simp [State.hostSide, h]

/-- The commands whose work writes RESULT (R25). -/
def writesResult : Instr → Bool
  | .oscNext | .interpNone | .interpLinear | .interpHermite => true
  | _ => false

/-- What holds of the state `t` that the work of `i` makes of `s`: the host's side stays, RESULT stays but for the four commands
that write it, and PREPARED stays but for MOD_PREPARE, which sets it. -/
structure WorkFrame (i : Instr) (s t : State) : Prop where
  hostSide : t.hostSide = s.hostSide
  result : writesResult i = false → t.result = s.result
  prepared : t.prepared = (decide (i = .modPrepare) || s.prepared)

theorem WorkFrame.of_onlyMemory {i : Instr} {s t : State} (h : OnlyMemory s t) (hi : i ≠ .modPrepare) :
    WorkFrame i s t := by
  obtain ⟨m, rfl⟩ := h
  exact ⟨rfl, fun _ => rfl, by rw [decide_eq_false hi]; rfl⟩

theorem State.selectShape_frame (s : State) (shape : Nat) : WorkFrame (.oscSetShape shape) s (s.selectShape shape) := by
  unfold State.selectShape
  split <;> exact ⟨rfl, fun _ => rfl, rfl⟩

/-- A block changes memory, then writes ENV_OUT, GATE_OUT and the collaborator states, which were there before. -/
theorem State.processBlock_frame (s : State) : WorkFrame .modProcess s s.processBlock := by
  unfold State.processBlock
  split
  case h_1 c hc =>
    have hloop : OnlyMemory (s.setPrm (s.snapshot c)) (s.runBlock c).st := OnlyMemory.blockLoop _ _ (s.openBlock c)
    obtain ⟨m, hst⟩ := hloop
    refine ⟨?_, fun _ => ?_, ?_⟩
    · rw [State.closeBlock, State.setCollab_hostSide, State.setMod_hostSide (by rfl), hst]; rfl
    · rw [State.closeBlock, State.setCollab_result, State.setMod_result, hst]; rfl
    · rw [State.closeBlock, State.setCollab_prepared, State.prepared, hc]; rfl
  case h_2 => exact ⟨rfl, fun _ => rfl, rfl⟩

theorem commandWork_frame (i : Instr) (s : State) : WorkFrame i s (commandWork i s) := by
  cases i with
  | nop | oscSetSr | oscSetFreq | oscSetPhase | oscAddPhase | oscSetPw => exact ⟨rfl, fun _ => rfl, rfl⟩
  | oscNext | interpNone | interpLinear | interpHermite => exact ⟨rfl, fun h => absurd h (by decide), rfl⟩
  | modPrepare | modNextDist => exact ⟨rfl, fun _ => rfl, rfl⟩
  | oscSetShape shape => exact s.selectShape_frame shape
  | fftTwgen log2n inv => exact .of_onlyMemory (.twgen s log2n inv) nofun
  | fftRadix2 log2n => exact .of_onlyMemory (.radix2 s log2n) nofun
  | fftBitrev log2n => exact .of_onlyMemory (.bitrev s log2n) nofun
  | modProcess => exact s.processBlock_frame

theorem exec_hostSide {i : Instr} {s t : State} (h : exec i s = .next t) : t.hostSide = s.hostSide := by
  rcases exec_cases h with ⟨_, rfl⟩ | ⟨_, rfl⟩
  · exact s.raiseFault_hostSide _
  · rw [State.complete_hostSide, (commandWork_frame i s).hostSide]

/-- Settles O50: neither the recording of a fault nor any command's work writes the host's side (`exec_hostSide`). -/
theorem commandsNeverWriteHostRegisters : Obligations.CommandsNeverWriteHostRegisters := by
  intro i s t h
  simpa only [State.hostSide, HostSide.mk.injEq] using exec_hostSide h

/-- Settles O51: the recording of a fault leaves RESULT alone, and so does the work of every other command. -/
theorem onlyFourCommandsWriteResult : Obligations.OnlyFourCommandsWriteResult := by
  intro i s t h
  rcases exec_cases h with ⟨hdue, rfl⟩ | ⟨hdue, rfl⟩
  · exact ⟨fun _ _ _ _ => rfl, fun _ => rfl⟩
  · refine ⟨fun hnext hnone hlinear hhermite => ?_, fun hne => absurd hdue hne⟩
    have hwrites : writesResult i = false := by
      cases i with
      | oscNext => exact absurd rfl hnext
      | interpNone => exact absurd rfl hnone
      | interpLinear => exact absurd rfl hlinear
      | interpHermite => exact absurd rfl hhermite
      | _ => rfl
    rw [State.complete_result, (commandWork_frame i s).result hwrites]

/-! ### The register map (R26): an access to a register offset is the register's -/

theorem mem_of_regIn {l : List (Nat × Reg)} {off : Nat} {r : Reg} (h : regIn l off = some r) : (off, r) ∈ l := by
  induction l with
  | nil => cases h
  | cons row rest ih =>
    obtain ⟨o, x⟩ := row
    rw [regIn] at h
    split at h
    case isTrue ho => cases h; rw [ho]; exact List.mem_cons_self
    case isFalse => exact List.mem_cons_of_mem _ (ih h)

theorem regAt_offset_lt {off : Nat} {r : Reg} (h : regAt off = some r) : off < 0x100 :=
  (by decide : ∀ row ∈ registerMap, row.1 < 0x100) _ (mem_of_regIn h)

theorem regAt_cmd {off : Nat} (h : regAt off = some .cmd) : off = 0x020 :=
  (by decide : ∀ row ∈ registerMap, row.2 = .cmd → row.1 = 0x020) _ (mem_of_regIn h) rfl

theorem State.readWindow_reg (s : State) {off : Nat} (r : Reg) (h : regAt off = some r) :
    s.readWindow off = s.readReg r := by
  rw [State.readWindow, if_pos (regAt_offset_lt h), h]

theorem State.writeWindow_reg (s : State) (v : Word) {off : Nat} (r : Reg) (h : regAt off = some r) :
    s.writeWindow off v = s.writeReg r v := by
  rw [State.writeWindow, if_pos (regAt_offset_lt h), h]

/-- What an aligned host write can do: nothing, store a word of memory, or write a register. -/
theorem State.writeWindow_cases (s : State) (off : Nat) (v : Word) :
    s.writeWindow off v = s ∨ s.writeWindow off v = s.writeWord off v ∨
      ∃ r, regAt off = some r ∧ s.writeWindow off v = s.writeReg r v := by
  unfold State.writeWindow
  split
  · cases hr : regAt off with
    | some r => exact .inr (.inr ⟨r, rfl, rfl⟩)
    | none => exact .inl rfl
  · split
    · exact .inr (.inl rfl)
    · exact .inl rfl

theorem State.issue_of_err {s : State} {w : Word} (h : s.err = true) : s.issue w = s := if_pos h

theorem State.issue_of_not_err {s : State} {w : Word} (h : s.err = false) : s.issue w = s.accept w := by
  rw [State.issue, h]; rfl

@[simp] theorem State.issue_prepared (s : State) (w : Word) : (s.issue w).prepared = s.prepared := by
  unfold State.issue
  split <;> rfl

theorem State.writeReg_prepared (s : State) (r : Reg) (v : Word) : (s.writeReg r v).prepared = s.prepared := by
  cases r with
  | cmd => exact s.issue_prepared v
  | _ => rfl

theorem State.writeWindow_prepared (s : State) (off : Nat) (v : Word) : (s.writeWindow off v).prepared = s.prepared := by
  rcases s.writeWindow_cases off v with h | h | ⟨r, _, h⟩
  · rw [h]
  · rw [h, State.writeWord_prepared]
  · rw [h, State.writeReg_prepared]

theorem State.writeReg_cmd {s : State} {r : Reg} (v : Word) (h : r ≠ .cmd) : (s.writeReg r v).cmd = s.cmd := by
  cases r with
  | cmd => exact absurd rfl h
  | _ => rfl

/-- CMD changes by an accepted write to it and by no other host write (R31). -/
theorem State.writeWindow_cmd_changes {s : State} {off : Nat} {v : Word} (h : (s.writeWindow off v).cmd ≠ s.cmd) :
    off = 0x020 ∧ s.err = false ∧ (s.writeWindow off v).cmd = v := by
  rcases s.writeWindow_cases off v with hw | hw | ⟨r, hr, hw⟩
  · rw [hw] at h; exact absurd rfl h
  · rw [hw] at h; exact absurd rfl h
  · by_cases hcmd : r = .cmd
    · subst hcmd
      rw [hw] at h ⊢
      cases herr : s.err with
      | true => exact absurd (congrArg State.cmd (State.issue_of_err herr)) h
      | false => exact ⟨regAt_cmd hr, rfl, congrArg State.cmd (State.issue_of_not_err herr)⟩
    · rw [hw] at h; exact absurd (s.writeReg_cmd v hcmd) h

/-! ### What the registers read, and what a write to each does (R28 to R49) -/

theorem toNat_append_eq {m n : Nat} (x : BitVec m) (y : BitVec n) : (x ++ y).toNat = 2 ^ n * x.toNat + y.toNat := by
  rw [BitVec.toNat_append, ← Nat.shiftLeft_add_eq_or_of_lt y.isLt, Nat.shiftLeft_eq, Nat.mul_comm]

theorem State.statusWord_bits (s : State) :
    s.statusWord.getLsbD 0 = s.busy ∧ s.statusWord.getLsbD 1 = s.done ∧ s.statusWord.getLsbD 2 = s.err ∧
      s.statusWord.getLsbD 3 = s.prepared := by
  simp only [State.statusWord, BitVec.getLsbD_append, BitVec.getLsbD_ofBool]
  simp

theorem State.statusWord_lt (s : State) : s.statusWord.toNat < 16 := by
  have hprep := Bool.toNat_lt s.prepared
  have herr := Bool.toNat_lt s.err
  have hdone := Bool.toNat_lt s.done
  have hbusy := Bool.toNat_lt s.busy
  simp only [State.statusWord, toNat_append_eq, BitVec.toNat_ofBool, BitVec.toNat_ofNat]
  omega

theorem State.readWindow_status (s : State) : s.readWindow 0x010 = s.statusWord := s.readWindow_reg .status rfl

/-- Settles O13: the register at 0x010 is STATUS, and its word is its four bits. -/
theorem statusIsWriteOneToClear : Obligations.StatusIsWriteOneToClear := by
  intro s v
  obtain ⟨hbusy, hdone, herr, hprep⟩ := s.statusWord_bits
  rw [s.readWindow_status]
  exact ⟨s.writeWindow_reg v .status rfl, hbusy, hdone, herr, hprep, s.statusWord_lt⟩

theorem Config.numDist_bounds : 1 ≤ Config.numDist ∧ Config.numDist ≤ 255 := by
  have h := Config.numDistIndex.isLt
  unfold Config.numDist
  omega

theorem Config.blockMax_bounds : 1 ≤ Config.blockMax ∧ Config.blockMax ≤ 1024 := by
  have h := Config.blockMaxIndex.isLt
  unfold Config.blockMax
  omega

theorem Config.dlySize_lt : Config.dlySize < 2 ^ 32 := by
  have h := Config.dlySizeIndex.isLt
  unfold Config.dlySize
  omega

theorem cfg0Word_toNat : cfg0Word.toNat = 12 + 2 ^ 8 * Config.numDist + 2 ^ 16 * Config.blockMax := by
  obtain ⟨_, hdist⟩ := Config.numDist_bounds
  obtain ⟨_, hblock⟩ := Config.blockMax_bounds
  unfold cfg0Word
  generalize Config.numDist = k at hdist ⊢
  generalize Config.blockMax = m at hblock ⊢
  simp only [toNat_append_eq, BitVec.toNat_ofNat, Config.log2Nmax]
  omega

/-- Settles O19: each field of CFG0 and CFG1 is wide enough for its parameter. -/
theorem configurationRegisters : Obligations.ConfigurationRegisters := by
  intro s
  rw [s.readWindow_reg .cfg0 rfl, s.readWindow_reg .cfg1 rfl]
  exact ⟨cfg0Word_toNat, (BitVec.toNat_ofNat _ _).trans (Nat.mod_eq_of_lt Config.dlySize_lt), Config.numDist_bounds,
    Config.blockMax_bounds, fun v => ⟨s.writeWindow_reg v .cfg0 rfl, s.writeWindow_reg v .cfg1 rfl⟩⟩

/-- The RO registers (R26). -/
def Reg.readOnly : Reg → Bool
  | .status | .irqEn | .cmd | .arg0 | .arg1 | .dlyBase | .dlyLen | .gateIn | .ctl _ => false
  | _ => true

theorem State.writeReg_readOnly {s : State} {r : Reg} (v : Word) (h : r.readOnly = true) : s.writeReg r v = s := by
  cases r with
  | status | irqEn | cmd | arg0 | arg1 | dlyBase | dlyLen | gateIn | ctl => cases h
  | _ => rfl

theorem State.writeWindow_readOnly {s : State} {off : Nat} (v : Word) (h : (regAt off).any Reg.readOnly = true) :
    s.writeWindow off v = s := by
  obtain ⟨r, hr, hro⟩ := (Option.any_eq_true _ _).mp h
  rw [s.writeWindow_reg v r hr, s.writeReg_readOnly v hro]

/-- Settles O16: the map names each offset's register, whose read and write are its own. -/
theorem registerAccessTypes : Obligations.RegisterAccessTypes := by
  intro s v
  have hread := fun off r => s.readWindow_reg (off := off) r
  have hwrite := fun off r => s.writeWindow_reg v (off := off) r
  refine ⟨fun off hoff => s.writeWindow_readOnly v ?_, ?_, ?_, ?_, ?_, ?_, ?_, ?_⟩
  · revert off
    decide
  · exact ⟨hwrite 0x014 .irqEn rfl, hwrite 0x024 .arg0 rfl, hwrite 0x028 .arg1 rfl, hwrite 0x060 .dlyBase rfl,
      hwrite 0x064 .dlyLen rfl, hwrite 0x094 .gateIn rfl⟩
  · exact ⟨hwrite 0x0A0 (.ctl .texture) rfl, hwrite 0x0A4 (.ctl .morphKnob) rfl, hwrite 0x0A8 (.ctl .morphCv) rfl,
      hwrite 0x0AC (.ctl .amp) rfl, hwrite 0x0B0 (.ctl .compressor) rfl, hwrite 0x0B4 (.ctl .sideChain) rfl,
      hwrite 0x0B8 (.ctl .attack) rfl, hwrite 0x0BC (.ctl .release) rfl⟩
  · refine ⟨hread 0x000 .id rfl, hread 0x014 .irqEn rfl, ?_, hread 0x01C .errCmd rfl, hread 0x024 .arg0 rfl,
      hread 0x028 .arg1 rfl, hread 0x02C .result rfl⟩
    rw [hread 0x018 .errCause rfl, State.readReg]
    cases s.errCause <;> rfl
  · refine ⟨?_, hread 0x044 .oscSr rfl, hread 0x048 .oscPhase rfl, hread 0x04C .oscInc rfl, hread 0x050 .oscPw rfl,
      hread 0x060 .dlyBase rfl, hread 0x064 .dlyLen rfl⟩
    rw [hread 0x040 .oscShape rfl, State.readReg]
    cases s.osc.shape <;> rfl
  · refine ⟨hread 0x080 .modSr rfl, hread 0x084 .modBs rfl, hread 0x088 .modBrate rfl, ?_, hread 0x090 .envOut rfl,
      hread 0x094 .gateIn rfl, hread 0x098 .gateOut rfl⟩
    rw [hread 0x08C .distSel rfl, State.readReg, BitVec.toNat_setWidth_of_le (by decide), toNat_append_eq, Nat.add_comm]
  · exact ⟨hread 0x0A0 (.ctl .texture) rfl, hread 0x0A4 (.ctl .morphKnob) rfl, hread 0x0A8 (.ctl .morphCv) rfl,
      hread 0x0AC (.ctl .amp) rfl, hread 0x0B0 (.ctl .compressor) rfl, hread 0x0B4 (.ctl .sideChain) rfl,
      hread 0x0B8 (.ctl .attack) rfl, hread 0x0BC (.ctl .release) rfl⟩
  · exact ⟨hread 0x0C0 (.prm .texture) rfl, hread 0x0C4 (.prm .morph) rfl, hread 0x0C8 (.prm .amp) rfl,
      hread 0x0CC (.prm .compressor) rfl, hread 0x0D0 (.prm .sideChain) rfl, hread 0x0D4 (.prm .attack) rfl,
      hread 0x0D8 (.prm .release) rfl⟩

/-! ### A BUSY core's step (R24, R53, R86) -/

theorem fitsFieldA_fieldA (w : Word) : fitsFieldA (fieldA w) = true :=
  decide_eq_true (Nat.le_of_lt_succ (w.extractLsb' 8 4).isLt)

theorem decodeN_wellFormed {w : Word} {i j : Instr} (hi : i.wellFormed = true) (h : decodeN w i = .ok j) :
    j.wellFormed = true := by
  unfold decodeN at h
  split at h <;> cases h
  exact hi

theorem decodeA_wellFormed {w : Word} {mk : Nat → Instr} {j : Instr} (hmk : ∀ n, (mk n).wellFormed = fitsFieldA n)
    (h : decodeA w mk = .ok j) : j.wellFormed = true := by
  unfold decodeA at h
  split at h <;> cases h
  rw [hmk, fitsFieldA_fieldA]

theorem decodeAI_wellFormed {w : Word} {mk : Nat → Bool → Instr} {j : Instr}
    (hmk : ∀ n inv, (mk n inv).wellFormed = fitsFieldA n) (h : decodeAI w mk = .ok j) : j.wellFormed = true := by
  unfold decodeAI at h
  split at h <;> cases h
  rw [hmk, fitsFieldA_fieldA]

/-- A decoded field comes from four bits, so what decodes can be encoded (R83). -/
theorem decode_wellFormed {w : Word} {i : Instr} (h : decode w = .ok i) : i.wellFormed = true := by
  unfold decode at h
  split at h
  case h_2 | h_13 | h_14 => exact decodeA_wellFormed (fun _ => rfl) h
  case h_12 => exact decodeAI_wellFormed (fun _ _ => rfl) h
  case h_18 => cases h
  all_goals exact decodeN_wellFormed rfl h

theorem BusAccess.isStatusRead_iff {a : BusAccess} : a.isStatusRead = true ↔ a = statusRead := by
  obtain ⟨off, width, op⟩ := a
  simp only [BusAccess.isStatusRead, BusAccess.aligned, statusRead, BusAccess.mk.injEq, Bool.and_eq_true,
    decide_eq_true_eq]
  exact ⟨fun ⟨⟨hoff, hwidth, _⟩, hop⟩ => ⟨hoff, hwidth, hop⟩,
    fun ⟨hoff, hwidth, hop⟩ => ⟨⟨hoff, hwidth, by rw [hoff]⟩, hop⟩⟩

theorem State.answerPolls_of_readyToRun {s : State} {l : Latched} (h : readyToRun s l) : s.answerPolls = s := by
  obtain ⟨_, _, hpolls⟩ := h
  exact s.answerPolls_of_none fun a ha => Bool.eq_false_iff.mpr (mt BusAccess.isStatusRead_iff.mp (hpolls a ha))

theorem State.runCommand_of_decode {s : State} {w : Word} {i : Instr} (h : decode w = .ok i) :
    s.runCommand w = exec i s := by
  rw [State.runCommand, h]

theorem step_of_busy {s : State} {l : Latched} (hr : s.resetIn = false) (hs : s.seq = some l) :
    step s = s.answerPolls.runCommand l.word := by
  rw [step, hr, hs]

/-- Settles O5: what decodes is well formed (`decode_wellFormed`), and answering no STATUS read changes nothing
(`answerPolls_of_readyToRun`). -/
theorem stepRunsDecodedCommand : Obligations.StepRunsDecodedCommand := by
  intro s l i
  have hstep (hr : s.resetIn = false) (hs : s.seq = some l) (hd : decode l.word = .ok i) :
      step s = exec i s.answerPolls := by
    rw [step_of_busy hr hs, State.runCommand_of_decode hd]
  refine ⟨fun hready hd => ⟨decode_wellFormed hd, ?_⟩, fun hr hs hd => ⟨decode_wellFormed hd, hstep hr hs hd, rfl⟩,
    fun hs => ⟨State.operands_of_busy hs, by rw [State.answerPolls_operands, State.operands_of_busy hs]⟩⟩
  have hpolls := State.answerPolls_of_readyToRun hready
  obtain ⟨hr, hs, _⟩ := hready
  rw [hstep hr hs hd, hpolls]

/-! ### CMD and PREPARED along a step (R31, R52) -/

/-- A word that decodes to no command records the fault and nothing else. -/
theorem State.runCommand_cases {s t : State} {w : Word} (h : s.runCommand w = .next t) :
    (∃ i, decode w = .ok i ∧ exec i s = .next t) ∨ t = s.raiseFault .illegalCmd := by
  unfold State.runCommand at h
  split at h
  case h_1 i hd => exact .inl ⟨i, hd, h⟩
  case h_2 => exact .inr (trap_next h)

theorem State.runCommand_hostSide {s t : State} {w : Word} (h : s.runCommand w = .next t) : t.hostSide = s.hostSide := by
  rcases State.runCommand_cases h with ⟨i, _, hexec⟩ | rfl
  · exact exec_hostSide hexec
  · exact s.raiseFault_hostSide _

/-- Apart from its response an access performed is an aligned write or has no effect (R66, R70). -/
theorem State.perform_effect {s t : State} {a : BusAccess} (h : s.perform a = .next t) :
    (∃ rs, t = s.setReply rs) ∨
      ∃ v rs, a = { offset := a.offset, width := .word, op := .write v } ∧ t = (s.writeWindow a.offset v).setReply rs := by
  obtain ⟨_, ⟨haligned, rfl⟩ | ⟨_, rfl⟩⟩ := perform_cases h
  · obtain ⟨off, width, op⟩ := a
    cases op with
    | read => exact .inl ⟨_, rfl⟩
    | write v =>
      simp only [BusAccess.aligned, Bool.and_eq_true, decide_eq_true_eq] at haligned
      obtain ⟨rfl, _⟩ := haligned
      exact .inr ⟨v, _, rfl, rfl⟩
  · exact .inl ⟨_, rfl⟩

theorem step_cmd_changes {s t : State} (h : step s = .next t) (hne : t.cmd ≠ s.cmd) :
    s.resetIn = true ∨ ∃ rest, s.seq = none ∧ s.err = false ∧
      s.bus = { offset := 0x020, width := .word, op := .write t.cmd } :: rest := by
  rcases step_cases h with ⟨hr, _⟩ | ⟨_, _, _, rfl⟩ | ⟨a, rest, _, hs, hb, hperform⟩ | ⟨l, _, _, hrun⟩
  · exact .inl hr
  · exact absurd rfl hne
  · rcases State.perform_effect hperform with ⟨rs, rfl⟩ | ⟨v, rs, ha, rfl⟩
    · exact absurd rfl hne
    · obtain ⟨hoff, herr, hcmd⟩ := State.writeWindow_cmd_changes hne
      refine .inr ⟨rest, hs, herr, ?_⟩
      rw [hb, State.setReply_cmd, hcmd, ha, hoff]
  · exact absurd (congrArg HostSide.cmd (State.runCommand_hostSide hrun)) hne

/-- Settles O7: the offset 0x020 is CMD's, and no step but its accepted write or a reset changes it (`step_cmd_changes`). -/
theorem commandWriteIsAcceptedOrDiscarded : Obligations.CommandWriteIsAcceptedOrDiscarded := by
  refine ⟨fun s w herr => ?_, fun s w herr => ?_, fun s => s.readWindow_reg .cmd rfl, fun s t => step_cmd_changes,
    State.reset.readWindow_reg .cmd rfl⟩
  · rw [s.writeWindow_reg w .cmd rfl]
    exact State.issue_of_not_err herr
  · rw [s.writeWindow_reg w .cmd rfl]
    exact State.issue_of_err herr

theorem exec_keeps_prepared {i : Instr} {s t : State} (h : exec i s = .next t) (hp : s.prepared = true) :
    t.prepared = true := by
  rcases exec_cases h with ⟨_, rfl⟩ | ⟨_, rfl⟩
  · exact hp
  · rw [State.complete_prepared, (commandWork_frame i s).prepared, hp, Bool.or_true]

theorem exec_sets_prepared {i : Instr} {s t : State} (h : exec i s = .next t) (hs : s.prepared = false)
    (ht : t.prepared = true) : i = .modPrepare := by
  rcases exec_cases h with ⟨_, rfl⟩ | ⟨_, rfl⟩
  · exact absurd (hs.symm.trans ht) (by decide)
  · rw [State.complete_prepared, (commandWork_frame i s).prepared, hs, Bool.or_false] at ht
    exact of_decide_eq_true ht

/-- PREPARED changes in no step but a reset and the run of a command. -/
theorem step_prepared_cases {s t : State} (h : step s = .next t) :
    (s.resetIn = true ∧ t.prepared = false) ∨ t.prepared = s.prepared ∨
      ∃ l i, s.seq = some l ∧ decode l.word = .ok i ∧ exec i s.answerPolls = .next t := by
  rcases step_cases h with ⟨hr, rfl⟩ | ⟨_, _, _, rfl⟩ | ⟨a, rest, _, _, _, hperform⟩ | ⟨l, _, hs, hrun⟩
  · exact .inl ⟨hr, rfl⟩
  · exact .inr (.inl rfl)
  · rcases State.perform_effect hperform with ⟨rs, rfl⟩ | ⟨v, rs, _, rfl⟩
    · exact .inr (.inl rfl)
    · exact .inr (.inl (State.writeWindow_prepared _ _ _))
  · rcases State.runCommand_cases hrun with ⟨i, hd, hexec⟩ | rfl
    · exact .inr (.inr ⟨l, i, hs, hd, hexec⟩)
    · exact .inr (.inl rfl)

/-- Settles O49: among the steps of `step_prepared_cases` a reset alone clears PREPARED, and of the commands MOD_PREPARE alone
sets it. -/
theorem onlyResetUnprepares : Obligations.OnlyResetUnprepares := by
  refine ⟨rfl, fun s => ?_, fun s t h herr => ?_, fun s t h => ⟨fun hs ht => ?_, fun hs ht => ?_⟩⟩
  · obtain ⟨_, _, _, hprep⟩ := s.statusWord_bits
    rw [s.readWindow_status, hprep]
  · rcases exec_cases h with ⟨_, rfl⟩ | ⟨_, rfl⟩
    · cases herr
    · rfl
  · rcases step_prepared_cases h with ⟨hr, _⟩ | hsame | ⟨l, i, _, _, hexec⟩
    · exact hr
    · rw [hsame, hs] at ht; cases ht
    · rw [exec_keeps_prepared hexec hs] at ht; cases ht
  · rcases step_prepared_cases h with ⟨_, hfalse⟩ | hsame | ⟨l, i, hseq, hd, hexec⟩
    · rw [hfalse] at ht; cases ht
    · rw [hsame, hs] at ht; cases ht
    · exact ⟨l, hseq, exec_sets_prepared hexec hs ht ▸ hd⟩

end Sys2Proof.Machine

/-! Memory and the host bus (R56 to R74): O56, O8, O9, O10, O11, O17, O18, O52. Said once and then cited: an aligned offset is
storage, a register or reserved (`readWindow_storage`, `writeWindow_reserved` and their like), the bytes a command may write
(`commandWork_writesWithin`), and what the invariant asks of each kind of step. -/

namespace Sys2Proof.Machine

open Sys2Proof

/-! ### The address map (R60, R67): an offset is storage, a register or reserved -/

theorem isStorage_iff (off : Nat) :
    isStorage off = true ↔
      (0x01000 ≤ off ∧ off < 0x01000 + 4 * Config.blockMax) ∨ (0x02000 ≤ off ∧ off < 0x02000 + 4 * Config.blockMax) ∨
        (0x03000 ≤ off ∧ off < 0x03000 + 4 * Config.blockMax) ∨
        (0x04000 ≤ off ∧ off < 0x04000 + 4 * Config.blockMax) ∨
        (0x08000 ≤ off ∧ off < 0x0C000) ∨ (0x10000 ≤ off ∧ off < 0x18000) ∨
        (0x20000 ≤ off ∧ off < 0x20000 + 4 * Config.dlySize) := by
  simp [isStorage, memoryMap, Region.holds, Config.log2Nmax]

theorem regAt_of_ge {off : Nat} (h : 0x100 ≤ off) : regAt off = none := by
  cases hr : regAt off with
  | none => rfl
  | some r => exact absurd (regAt_offset_lt hr) (Nat.not_lt.mpr h)

theorem storage_ge {off : Nat} (h : isStorage off = true) : 0x100 ≤ off := by
  rw [isStorage_iff] at h
  omega

theorem State.readWindow_storage (s : State) {off : Nat} (h : isStorage off = true) :
    s.readWindow off = s.readWord off := by
  rw [State.readWindow, if_neg (Nat.not_lt.mpr (storage_ge h)), if_pos h]

theorem State.writeWindow_storage (s : State) (v : Word) {off : Nat} (h : isStorage off = true) :
    s.writeWindow off v = s.writeWord off v := by
  rw [State.writeWindow, if_neg (Nat.not_lt.mpr (storage_ge h)), if_pos h]

theorem State.readWindow_reserved (s : State) {off : Nat} (hr : regAt off = none) (hs : isStorage off = false) :
    s.readWindow off = 0#32 := by
  rw [State.readWindow, hr, hs]
  exact ite_self _

theorem State.writeWindow_reserved (s : State) (v : Word) {off : Nat} (hr : regAt off = none) (hs : isStorage off = false) :
    s.writeWindow off v = s := by
  rw [State.writeWindow, hr, hs]
  exact ite_self _

/-- A word of storage is whole: the four bytes from an aligned offset are storage with it (R60). -/
theorem isStorage_word {off x : Nat} (hal : off % 4 = 0) (h : isStorage off = true) (hlo : off ≤ x) (hhi : x < off + 4) :
    isStorage x = true := by
  rw [isStorage_iff] at h ⊢
  omega

@[simp] theorem State.setBus_readWindow (s : State) (q : List BusAccess) (off : Nat) :
    (s.setBus q).readWindow off = s.readWindow off := rfl

theorem State.setBus_issue (s : State) (q : List BusAccess) (w : Word) :
    (s.setBus q).issue w = (s.issue w).setBus q := by
  rw [State.issue, State.issue, State.setBus_err, apply_ite (State.setBus · q)]
  rfl

theorem State.setBus_writeReg (s : State) (q : List BusAccess) (r : Reg) (v : Word) :
    (s.setBus q).writeReg r v = (s.writeReg r v).setBus q := by
  cases r with
  | cmd => exact s.setBus_issue q v
  | _ => rfl

theorem State.setBus_writeWindow (s : State) (q : List BusAccess) (off : Nat) (v : Word) :
    (s.setBus q).writeWindow off v = (s.writeWindow off v).setBus q := by
  cases hr : regAt off with
  | some r => rw [State.writeWindow_reg _ v r hr, s.writeWindow_reg v r hr, s.setBus_writeReg]
  | none =>
    cases hs : isStorage off with
    | true => rw [State.writeWindow_storage _ v hs, s.writeWindow_storage v hs]; rfl
    | false => rw [State.writeWindow_reserved _ v hr hs, s.writeWindow_reserved v hr hs]

/-! ### The IDLE core's step (R66, R70, R74) -/

theorem step_of_idle {s : State} {a : BusAccess} {rest : List BusAccess} (hr : s.resetIn = false) (hs : s.seq = none)
    (hb : s.bus = a :: rest) : step s = (s.setBus rest).perform a := by
  simp only [step, hr, hs, State.idleStep, hb]

theorem State.perform_aligned (s : State) {a : BusAccess} (hw : a.offset < windowSize) (hal : a.aligned = true) :
    s.perform a = .next (s.serve a) := by
  rw [State.perform, if_neg (Nat.not_le.mpr hw), if_pos hal]

theorem State.perform_unaligned (s : State) {a : BusAccess} (hw : a.offset < windowSize) (hal : a.aligned = false) :
    s.perform a = .next (s.setReply [{ error := true, data := 0#32 }]) := by
  rw [State.perform, if_neg (Nat.not_le.mpr hw), hal]
  rfl

theorem BusAccess.aligned_iff (a : BusAccess) : a.aligned = true ↔ a.width = .word ∧ a.offset % 4 = 0 := by
  rw [BusAccess.aligned, Bool.and_eq_true, decide_eq_true_eq, decide_eq_true_eq]

theorem State.perform_read (s : State) {off : Nat} (hw : off < windowSize) (hal : off % 4 = 0) :
    s.perform { offset := off, width := .word, op := .read } =
      .next (s.setReply [{ error := false, data := s.readWindow off }]) :=
  s.perform_aligned hw ((BusAccess.aligned_iff _).mpr ⟨rfl, hal⟩)

theorem State.perform_write (s : State) (v : Word) {off : Nat} (hw : off < windowSize) (hal : off % 4 = 0) :
    s.perform { offset := off, width := .word, op := .write v } =
      .next ((s.writeWindow off v).setReply [{ error := false, data := 0#32 }]) :=
  s.perform_aligned hw ((BusAccess.aligned_iff _).mpr ⟨rfl, hal⟩)

/-- Settles O9: the access that arrived first gets the error response (`State.perform_unaligned`), with data 0. -/
theorem otherAccessesAreBusErrors : Obligations.OtherAccessesAreBusErrors := by
  intro s a rest hr hs hb hw hal
  have haligned : a.aligned = false := by
    rw [Bool.eq_false_iff, Ne, BusAccess.aligned_iff]
    exact not_and_or.mpr hal
  have hstep : step s = .next ((s.setBus rest).setReply [{ error := true, data := 0#32 }]) := by
    rw [step_of_idle hr hs hb, State.perform_unaligned _ hw haligned]
  exact ⟨⟨0#32, hstep⟩, fun _ => hstep⟩

/-- Settles O8: taking the access from the queue changes neither what it reads nor what it writes. -/
theorem idleCorePerformsFirstAccess : Obligations.IdleCorePerformsFirstAccess := by
  intro s off rest hr hs hw hal
  refine ⟨fun hb => ?_, fun v hb => ?_⟩
  · rw [step_of_idle hr hs hb, State.perform_read _ hw hal, State.setBus_readWindow]
    rfl
  · rw [step_of_idle hr hs hb, State.perform_write _ v hw hal, State.setBus_writeWindow]
    rfl

/-! ### Storage and reserved offsets (R60, R67, R69) -/

/-- An offset that is not storage reads the same whatever memory holds. -/
theorem State.readWindow_writeWord_of_not_storage (s : State) (a : Nat) (v : Word) {x : Nat} (h : isStorage x = false) :
    (s.writeWord a v).readWindow x = s.readWindow x := by
  cases hr : regAt x with
  | some r => rw [State.readWindow_reg _ r hr, s.readWindow_reg r hr]; rfl
  | none => rw [State.readWindow_reserved _ hr h, s.readWindow_reserved hr h]

/-- Settles O17: the offsets are storage, where an access is one of memory; two aligned words are the same or apart. -/
theorem storageReadsBackAlone : Obligations.StorageReadsBackAlone := by
  intro s off v hal hoff
  have hst := (isStorage_iff off).mpr hoff
  rw [s.writeWindow_storage v hst, s.readWindow_storage hst, State.readWindow_storage _ hst]
  refine ⟨rfl, s.readWord_writeWord_same off v, rfl, fun x hx hne => ?_⟩
  cases hstx : isStorage x with
  | true =>
    have hapart : x + 4 ≤ off ∨ off + 4 ≤ x := by omega
    rw [State.readWindow_storage _ hstx, s.readWindow_storage hstx, s.readWord_writeWord_apart v hapart]
  | false => exact s.readWindow_writeWord_of_not_storage off v hstx

/-- An aligned access to a reserved offset (R67). -/
theorem State.perform_reserved (s : State) {off : Nat} (hw : off < windowSize) (hal : off % 4 = 0)
    (hr : regAt off = none) (hs : isStorage off = false) (op : BusOp) :
    s.perform { offset := off, width := .word, op := op } = .next (s.setReply [{ error := false, data := 0#32 }]) := by
  cases op with
  | read => rw [s.perform_read hw hal, s.readWindow_reserved hr hs]
  | write v => rw [s.perform_write v hw hal, s.writeWindow_reserved v hr hs]

/-- The slots of IN and OUT in the window (R60). -/
theorem slot_offset {c : Channel} {i off : Nat} (h : off = inAddr c i ∨ off = outAddr c i) :
    off = 0x1000 + 4 * i ∨ off = 0x2000 + 4 * i ∨ off = 0x3000 + 4 * i ∨ off = 0x4000 + 4 * i := by
  cases c <;> simp only [inAddr, outAddr, Channel.index] at h <;> omega

/-- Settles O18: none of the offsets is storage or a register's, by the address map from 0x100 on and the table of R26 below. -/
theorem reservedOffsetsReadZero : Obligations.ReservedOffsetsReadZero := by
  intro s off hal hoff
  have hspace (hlo : 0x100 ≤ off) (hhi : off < windowSize) (hs : ¬ isStorage off = true) :
      off < windowSize ∧ regAt off = none ∧ isStorage off = false :=
    ⟨hhi, regAt_of_ge hlo, Bool.eq_false_iff.mpr hs⟩
  obtain ⟨hw, hr, hs⟩ : off < windowSize ∧ regAt off = none ∧ isStorage off = false := by
    obtain ⟨_, hblock⟩ := Config.blockMax_bounds
    simp only [isStorage_iff, windowSize] at hspace
    rcases hoff with ⟨c, i, hlo, hhi, hslot⟩ | ⟨j, hlo, hhi, rfl⟩ | hgap | hgap | hgap | hgap | hreg
    · have hslot := slot_offset hslot
      exact hspace (by omega) (by omega) (by omega)
    · unfold dlyAddr at hspace ⊢
      exact hspace (by omega) (by omega) (by omega)
    iterate 4 exact hspace (by omega) (by omega) (by omega)
    · have hbelow : off < 0x100 ∧ regAt off = none := by
        clear hspace hal
        revert off
        decide
      obtain ⟨hlt, hr⟩ := hbelow
      exact ⟨Nat.lt_trans hlt (by decide), hr, Bool.eq_false_iff.mpr fun hst => Nat.not_lt.mpr (storage_ge hst) hlt⟩
  have hperform := s.perform_reserved hw hal hr hs
  exact ⟨hperform .read, fun v => ⟨0#32, hperform (.write v)⟩⟩

/-! ### The BUSY core's queue and responses (R73) -/

theorem BusAccess.isStatusRead_eq (a : BusAccess) : a.isStatusRead = (a == statusRead) := by
  rw [Bool.eq_iff_iff, BusAccess.isStatusRead_iff, beq_iff_eq]

/-- The waiting STATUS reads are as many copies of the one read of STATUS. -/
theorem State.polls_eq (s : State) : s.polls = List.replicate (s.bus.count statusRead) statusRead := by
  simp only [State.polls, BusAccess.isStatusRead_eq, List.filter_beq]

/-- The accesses held are those that are no STATUS read, in order. -/
theorem State.answerPolls_bus_eq (s : State) :
    s.answerPolls.bus = s.bus.filter (fun a => decide (a ≠ statusRead)) := by
  rw [State.answerPolls_bus]
  exact List.filter_congr fun a _ => by rw [BusAccess.isStatusRead_eq, decide_not]; rfl

theorem State.answerPolls_reply_eq (s : State) :
    s.answerPolls.reply =
      if statusRead ∈ s.bus then List.replicate (s.bus.count statusRead) { error := false, data := s.statusWord }
      else s.reply := by
  rw [State.answerPolls_reply, State.polls_eq, List.length_replicate]
  by_cases hmem : statusRead ∈ s.bus
  · have hcount : s.bus.count statusRead ≠ 0 := (List.count_pos_iff.mpr hmem).ne'
    rw [if_pos hmem, if_neg (by simpa using hcount)]
  · rw [if_neg hmem, List.count_eq_zero_of_not_mem hmem, List.replicate_zero, if_pos rfl]

/-- A BUSY core's step leaves the host's side as answering the STATUS reads leaves it. -/
theorem step_busy_hostSide {s t : State} {l : Latched} (hr : s.resetIn = false) (hs : s.seq = some l)
    (h : step s = .next t) : t.hostSide = s.answerPolls.hostSide :=
  State.runCommand_hostSide ((step_of_busy hr hs).symm.trans h)

/-- Settles O10: the step leaves the queue and the responses as `State.answerPolls` makes them. -/
theorem statusReadCompletesWhileBusy : Obligations.StatusReadCompletesWhileBusy := by
  intro s t l hr hs h
  have hside := step_busy_hostSide hr hs h
  have hbus : t.bus = _ := (congrArg HostSide.bus hside).trans s.answerPolls_bus_eq
  have hreply : t.reply = _ := (congrArg HostSide.reply hside).trans s.answerPolls_reply_eq
  obtain ⟨hbusy, _⟩ := s.statusWord_bits
  rw [s.readWindow_status]
  refine ⟨fun a ha => ?_, ?_, hreply⟩
  · rw [hbus] at ha
    exact of_decide_eq_true (List.mem_filter.mp ha).2
  · rw [hbusy, State.busy, hs]
    rfl

/-! ### What a command makes of ERR and its record, and of DONE (R168, R172) -/

theorem State.selectShape_eq (s : State) (field : Nat) : ∃ o, s.selectShape field = s.setOsc o := by
  unfold State.selectShape
  split
  · exact ⟨_, rfl⟩
  · exact ⟨s.osc, rfl⟩

/-- A block leaves memory, the snapshot, the module registers and the collaborator states written, and no more (R156). -/
theorem State.closeBlock_eq (s : State) (c : Collaborators) :
    ∃ m, s.closeBlock c =
      { s with
        mem := m
        prm := s.snapshot c
        mod := blockRegs s.mod (s.runBlock c).env
        collab := some
          { smooth := smoothNext c.smooth (captureControls s.ctl)
            strip0 := (s.runBlock c).strip0
            strip1 := (s.runBlock c).strip1 } } := by
  have hloop : OnlyMemory (s.setPrm (s.snapshot c)) (s.runBlock c).st := OnlyMemory.blockLoop _ _ (s.openBlock c)
  obtain ⟨m, hst⟩ := hloop
  refine ⟨m, ?_⟩
  rw [State.closeBlock, hst]
  rfl

/-- A command whose checks pass leaves ERR and the record of the last fault alone. -/
theorem commandWork_faultRecord (i : Instr) (s : State) :
    (commandWork i s).err = s.err ∧ (commandWork i s).errCause = s.errCause ∧ (commandWork i s).errCmd = s.errCmd := by
  have honly {t : State} (h : OnlyMemory s t) : t.err = s.err ∧ t.errCause = s.errCause ∧ t.errCmd = s.errCmd := by
    obtain ⟨m, rfl⟩ := h
    exact ⟨rfl, rfl, rfl⟩
  have hresult (u : State) (v : Word) :
      (u.setResult v).err = u.err ∧ (u.setResult v).errCause = u.errCause ∧ (u.setResult v).errCmd = u.errCmd :=
    ⟨rfl, rfl, rfl⟩
  cases i with
  | interpNone | interpLinear | interpHermite => exact hresult s _
  | oscNext => exact hresult (s.setOsc _) _
  | fftTwgen log2n inv => exact honly (.twgen s log2n inv)
  | fftRadix2 log2n => exact honly (.radix2 s log2n)
  | fftBitrev log2n => exact honly (.bitrev s log2n)
  | oscSetShape field =>
    obtain ⟨o, ho⟩ := s.selectShape_eq field
    rw [commandWork, ho]
    exact ⟨rfl, rfl, rfl⟩
  | modProcess =>
    rw [commandWork, State.processBlock]
    split
    case h_1 c _ =>
      obtain ⟨m, hm⟩ := s.closeBlock_eq c
      rw [hm]
      exact ⟨rfl, rfl, rfl⟩
    case h_2 => exact ⟨rfl, rfl, rfl⟩
  | _ => exact ⟨rfl, rfl, rfl⟩

theorem exec_keeps_status {i : Instr} {s t : State} (h : exec i s = .next t) :
    (s.err = true → t.err = true) ∧ (s.done = true → t.done = true) := by
  rcases exec_cases h with ⟨_, rfl⟩ | ⟨_, rfl⟩
  · exact ⟨fun _ => rfl, id⟩
  · obtain ⟨herr, _⟩ := commandWork_faultRecord i s
    exact ⟨herr.trans, fun _ => rfl⟩

theorem State.runCommand_keeps_status {s t : State} {w : Word} (h : s.runCommand w = .next t) :
    (s.err = true → t.err = true) ∧ (s.done = true → t.done = true) := by
  rcases State.runCommand_cases h with ⟨i, _, hexec⟩ | rfl
  · exact exec_keeps_status hexec
  · exact ⟨fun _ => rfl, id⟩

/-- Settles O11: the host's side stays but for the queue and the responses, and no command clears ERR or DONE. -/
theorem heldAccessesKeepTheirOrder : Obligations.HeldAccessesKeepTheirOrder := by
  intro s t l hr hs h
  have hside := step_busy_hostSide hr hs h
  simp only [State.hostSide, HostSide.mk.injEq] at hside
  obtain ⟨harg0, harg1, hcmd, hirqEn, hdlyBase, hdlyLen, hctl, hgateIn, hbus, _⟩ := hside
  have hstatus := State.runCommand_keeps_status ((step_of_busy hr hs).symm.trans h)
  exact ⟨hbus.trans s.answerPolls_bus_eq, hcmd, harg0, harg1, hirqEn, hdlyBase, hdlyLen, hctl, hgateIn, hstatus⟩

/-! ### The bytes a command may write (R61, R65, R68) -/

/-- `t` is reached from `s` by writes at offsets of `P` alone: every other byte reads as before, and every entry of memory that
was not there before lies in `P`. -/
structure WritesWithin (P : Nat → Prop) (s t : State) : Prop where
  frame : ∀ a, ¬ P a → t.readByte a = s.readByte a
  listed : ∀ c ∈ t.mem, c ∈ s.mem ∨ P c.1

theorem WritesWithin.refl (P : Nat → Prop) (s : State) : WritesWithin P s s := ⟨fun _ _ => rfl, fun _ => .inl⟩

theorem WritesWithin.trans {P : Nat → Prop} {s t u : State} (h : WritesWithin P s t) (h' : WritesWithin P t u) :
    WritesWithin P s u :=
  ⟨fun a ha => (h'.frame a ha).trans (h.frame a ha), fun c hc => (h'.listed c hc).elim (h.listed c) .inr⟩

theorem WritesWithin.mono {P Q : Nat → Prop} {s t : State} (h : WritesWithin P s t) (hPQ : ∀ a, P a → Q a) :
    WritesWithin Q s t :=
  ⟨fun a ha => h.frame a (mt (hPQ a) ha), fun c hc => (h.listed c hc).imp id (hPQ _)⟩

theorem WritesWithin.writeWord {P : Nat → Prop} (s : State) {a : Nat} (v : Word) (hP : ∀ x, a ≤ x → x < a + 4 → P x) :
    WritesWithin P s (s.writeWord a v) :=
  ⟨fun x hx => s.readByte_writeWord_outside v (by by_contra hin; exact hx (hP x (by omega) (by omega))),
    fun _ hc => (Memory.mem_storeWord hc).imp id fun ⟨hlo, hhi⟩ => hP _ hlo hhi⟩

theorem WritesWithin.writeComplex {P : Nat → Prop} (s : State) {a : Nat} (z : Complex32)
    (hP : ∀ x, a ≤ x → x < a + 8 → P x) : WritesWithin P s (s.writeComplex a z) :=
  ⟨fun x hx => s.readByte_writeComplex_outside z (by by_contra hin; exact hx (hP x (by omega) (by omega))),
    fun _ hc => (State.mem_writeComplex hc).imp id fun ⟨hlo, hhi⟩ => hP _ hlo hhi⟩

theorem WritesWithin.loop {P : Nat → Prop} {n : Nat} {body : State → Nat → State} (s : State)
    (hb : ∀ i u, i < n → WritesWithin P u (body u i)) : WritesWithin P s (loop n body s) :=
  loop_induction (fun _ t => WritesWithin P s t) (.refl P s) fun i t hi ht => ht.trans (hb i t hi)

/-- The bytes of `TW[0 .. n-1]`. -/
def twBytes (n a : Nat) : Prop := twAddr 0 ≤ a ∧ a < twAddr n
/-- The bytes of `CBUF[0 .. n-1]`. -/
def cbufBytes (n a : Nat) : Prop := cbufAddr 0 ≤ a ∧ a < cbufAddr n
/-- The bytes of `OUT[0][0 .. n-1]` and `OUT[1][0 .. n-1]`. -/
def outBytes (n a : Nat) : Prop := ∃ c, outAddr c 0 ≤ a ∧ a < outAddr c n

theorem WritesWithin.writeTw (s : State) {n k : Nat} (z : Complex32) (hk : k < n) :
    WritesWithin (twBytes n) s (s.writeComplex (twAddr k) z) :=
  .writeComplex s z fun x hlo hhi => by unfold twBytes twAddr at *; omega

theorem WritesWithin.writeCbuf (s : State) {n i : Nat} (z : Complex32) (hi : i < n) :
    WritesWithin (cbufBytes n) s (s.writeComplex (cbufAddr i) z) :=
  .writeComplex s z fun x hlo hhi => by unfold cbufBytes cbufAddr at *; omega

theorem WritesWithin.writeOut (s : State) {n i : Nat} (c : Channel) (v : Word) (hi : i < n) :
    WritesWithin (outBytes n) s (s.writeWord (outAddr c i) v) :=
  .writeWord s v fun x hlo hhi => ⟨c, by unfold outAddr at *; omega, by unfold outAddr at *; omega⟩

theorem WritesWithin.twgen (s : State) (order : Nat) (inv : Bool) :
    WritesWithin (twBytes (2 ^ order / 2)) s (s.twgen order inv) :=
  .loop s fun _ u hk => .writeTw u _ hk

theorem WritesWithin.butterfly (s : State) {n : Nat} (tw : Nat) {i1 i2 : Nat} (h1 : i1 < n) (h2 : i2 < n) :
    WritesWithin (cbufBytes n) s (s.butterfly tw i1 i2) :=
  (WritesWithin.writeCbuf s _ h2).trans (.writeCbuf _ _ h1)

/-- The pairs of the block at `k` lie in `CBUF[k .. k + 2^(stage+1) - 1]` (R127). -/
theorem WritesWithin.fftBlock (s : State) {n : Nat} (order stage k : Nat) (hk : k + 2 ^ (stage + 1) ≤ n) :
    WritesWithin (cbufBytes n) s (s.fftBlock order stage k) := by
  rw [Nat.pow_succ] at hk
  exact .loop s fun _ u hpair => .butterfly u _ (by omega) (by omega)

/-- The blocks of a stage divide `CBUF[0 .. 2^order - 1]` (R127). -/
theorem WritesWithin.fftStage (s : State) (order stage : Nat) :
    WritesWithin (cbufBytes (2 ^ order)) s (s.fftStage order stage) := by
  refine .loop s fun j u hj => .fftBlock u order stage _ ?_
  calc j * 2 ^ (stage + 1) + 2 ^ (stage + 1) = (j + 1) * 2 ^ (stage + 1) := (Nat.succ_mul _ _).symm
    _ ≤ 2 ^ order / 2 ^ (stage + 1) * 2 ^ (stage + 1) := Nat.mul_le_mul_right _ hj
    _ ≤ 2 ^ order := Nat.div_mul_le_self _ _

theorem WritesWithin.radix2 (s : State) (order : Nat) : WritesWithin (cbufBytes (2 ^ order)) s (s.radix2 order) :=
  .loop s fun stage u _ => .fftStage u order stage

theorem revBits_lt (order i : Nat) : revBits order i < 2 ^ order := by
  induction order generalizing i with
  | zero => exact Nat.one_pos
  | succ n ih =>
    have hrest := ih (i / 2)
    have hbit : i % 2 * 2 ^ n ≤ 1 * 2 ^ n := Nat.mul_le_mul_right _ (by omega)
    rw [revBits, Nat.pow_succ]
    omega

theorem WritesWithin.bitrev (s : State) (order : Nat) : WritesWithin (cbufBytes (2 ^ order)) s (s.bitrev order) := by
  refine .loop s fun i u hi => ?_
  split
  · exact (WritesWithin.writeCbuf u _ hi).trans (.writeCbuf _ _ (revBits_lt order i))
  · exact .refl _ u

theorem WritesWithin.blockLoop (p : Params) (n : Nat) (b : Block) :
    WritesWithin (outBytes n) b.st (blockLoop p n b).st :=
  loop_induction (fun _ (d : Block) => WritesWithin (outBytes n) b.st d.st) (.refl _ b.st)
    fun _ d hi hd => hd.trans ((WritesWithin.writeOut d.st .left _ hi).trans (.writeOut _ .right _ hi))

theorem WritesWithin.closeBlock (s : State) (c : Collaborators) :
    WritesWithin (outBytes s.mod.blockSize.toNat) s (s.closeBlock c) := by
  obtain ⟨hframe, hlisted⟩ := WritesWithin.blockLoop (s.snapshot c) s.mod.blockSize.toNat (s.openBlock c)
  exact ⟨hframe, hlisted⟩

/-- The offsets a command may write. -/
def commandWrites : Instr → Nat → Prop
  | .fftTwgen _ _ => twBytes (2 ^ 11)
  | .fftRadix2 _ | .fftBitrev _ => cbufBytes (2 ^ 12)
  | .modProcess => outBytes Config.blockMax
  | _ => fun _ => False

theorem twBytes_mono {m n : Nat} (h : m ≤ n) (a : Nat) : twBytes m a → twBytes n a := by
  unfold twBytes twAddr
  omega

theorem cbufBytes_mono {m n : Nat} (h : m ≤ n) (a : Nat) : cbufBytes m a → cbufBytes n a := by
  unfold cbufBytes cbufAddr
  omega

theorem outBytes_mono {m n : Nat} (h : m ≤ n) (a : Nat) : outBytes m a → outBytes n a := by
  rintro ⟨c, hlo, hhi⟩
  refine ⟨c, hlo, ?_⟩
  unfold outAddr at *
  omega

/-- An FFT command whose size check passes has an order of at most 12 (R90). -/
theorem order_le_of_no_fault {n : Nat} (h : (if 12 < n then Cause.badFftSize else .none) = .none) : n ≤ 12 := by
  by_contra hn
  rw [if_pos (Nat.not_le.mp hn)] at h
  cases h

theorem WritesWithin.of_mem_eq {P : Nat → Prop} {s t : State} (hmem : t.mem = s.mem) (hepoch : t.epoch = s.epoch) :
    WritesWithin P s t :=
  ⟨fun a _ => by rw [State.readByte, hmem, hepoch]; rfl, fun c hc => .inl (hmem ▸ hc)⟩

theorem commandWork_writesWithin {i : Instr} {s : State} (hp : s.preparedOk) (hdue : dueFault i s = .none) :
    WritesWithin (commandWrites i) s (commandWork i s) := by
  cases i with
  | fftTwgen order inv =>
    have hsize : 2 ^ order / 2 ≤ 2 ^ 11 := by
      have := Nat.pow_le_pow_right two_pos (order_le_of_no_fault hdue)
      omega
    exact (WritesWithin.twgen s order inv).mono (twBytes_mono hsize)
  | fftRadix2 order =>
    exact (WritesWithin.radix2 s order).mono (cbufBytes_mono (Nat.pow_le_pow_right two_pos (order_le_of_no_fault hdue)))
  | fftBitrev order =>
    exact (WritesWithin.bitrev s order).mono (cbufBytes_mono (Nat.pow_le_pow_right two_pos (order_le_of_no_fault hdue)))
  | modProcess =>
    rw [commandWork, State.processBlock]
    split
    case h_1 c hc =>
      obtain ⟨_, hsize, _⟩ := hp c hc
      exact (WritesWithin.closeBlock s c).mono (outBytes_mono hsize)
    case h_2 => exact .refl _ s
  | oscSetShape field =>
    obtain ⟨o, ho⟩ := s.selectShape_eq field
    rw [commandWork, ho]
    exact .of_mem_eq rfl rfl
  | interpNone | interpLinear | interpHermite | oscNext =>
    exact .of_mem_eq (State.setResult_mem _ _) (State.setResult_epoch _ _)
  | _ => exact .of_mem_eq rfl rfl

theorem twBytes_iff (a : Nat) : twBytes (2 ^ 11) a ↔ 0x08000 ≤ a ∧ a < 0x0C000 := Iff.rfl

theorem cbufBytes_iff (a : Nat) : cbufBytes (2 ^ 12) a ↔ 0x10000 ≤ a ∧ a < 0x18000 := Iff.rfl

theorem outBytes_iff (a : Nat) :
    outBytes Config.blockMax a ↔
      (0x03000 ≤ a ∧ a < 0x03000 + 4 * Config.blockMax) ∨ (0x04000 ≤ a ∧ a < 0x04000 + 4 * Config.blockMax) :=
  ⟨fun ⟨c, h⟩ => by cases c <;> [exact .inl h; exact .inr h], fun h => h.elim (⟨.left, ·⟩) (⟨.right, ·⟩)⟩

/-- The offsets a command may write are storage, and of OUT, TW or CBUF. -/
theorem commandWrites_storage {i : Instr} {a : Nat} (h : commandWrites i a) : isStorage a = true := by
  rw [isStorage_iff]
  cases i with
  | fftTwgen => have := (twBytes_iff a).mp h; omega
  | fftRadix2 | fftBitrev => have := (cbufBytes_iff a).mp h; omega
  | modProcess => have := (outBytes_iff a).mp h; omega
  | _ => exact h.elim

theorem not_commandWrites {i : Instr} {a : Nat}
    (h : (0x01000 ≤ a ∧ a < 0x03000) ∨ (0x20000 ≤ a ∧ a < 0x40000) ∨
      ((∀ n inv, i ≠ .fftTwgen n inv) ∧ 0x08000 ≤ a ∧ a < 0x0C000)) : ¬ commandWrites i a := by
  intro hw
  obtain ⟨_, hblock⟩ := Config.blockMax_bounds
  cases i with
  | fftTwgen n inv =>
    have := (twBytes_iff a).mp hw
    rcases h with h | h | ⟨hne, _⟩
    · omega
    · omega
    · exact hne n inv rfl
  | fftRadix2 | fftBitrev => have := (cbufBytes_iff a).mp hw; omega
  | modProcess => have := (outBytes_iff a).mp hw; omega
  | _ => exact hw.elim

theorem exec_frame {i : Instr} {s t : State} (hp : s.preparedOk) (h : exec i s = .next t) {a : Nat}
    (ha : ¬ commandWrites i a) : t.readByte a = s.readByte a := by
  rcases exec_cases h with ⟨_, rfl⟩ | ⟨hdue, rfl⟩
  · rfl
  · exact (commandWork_writesWithin hp hdue).frame a ha

/-- Settles O52: IN and DLY are in no command's `commandWrites`, and TW in FFT_TWGEN's alone. -/
theorem commandsLeaveInputMemories : Obligations.CommandsLeaveInputMemories := by
  intro i s t hp h
  exact ⟨fun a hlo hhi => exec_frame hp h (not_commandWrites (.inl ⟨hlo, hhi⟩)),
    fun a hlo hhi => exec_frame hp h (not_commandWrites (.inr (.inl ⟨hlo, hhi⟩))),
    fun hne a hlo hhi => exec_frame hp h (not_commandWrites (.inr (.inr ⟨hne, hlo, hhi⟩)))⟩

/-! ### The invariant under what each kind of step does (R44, R53, R60, R154, R162, R172) -/

/-- Memory stays canonical and within storage when what is written is storage. -/
theorem State.memoryOk_of_writesWithin {P : Nat → Prop} {s t : State} (hs : s.memoryOk) (hwf : Memory.wf t.mem = true)
    (h : WritesWithin P s t) (hP : ∀ a, P a → isStorage a = true) : t.memoryOk := by
  obtain ⟨_, hstorage⟩ := hs
  exact ⟨hwf, fun c hc => (h.listed c hc).elim (hstorage c) (hP c.1)⟩

theorem State.latchOk_of_idle {s : State} (h : s.seq = none) : s.latchOk := by
  intro l hl
  rw [h] at hl
  cases hl

theorem State.Inv.setReply {s : State} (hs : s.Inv) (rs : List BusReply) : (s.setReply rs).Inv :=
  ⟨hs.memory, hs.latch, hs.error, hs.selectors, hs.gates, hs.prepared⟩

theorem State.Inv.setBus {s : State} (hs : s.Inv) (q : List BusAccess) : (s.setBus q).Inv :=
  ⟨hs.memory, hs.latch, hs.error, hs.selectors, hs.gates, hs.prepared⟩

theorem State.Inv.setOsc {s : State} (hs : s.Inv) (o : Oscillator) : (s.setOsc o).Inv :=
  ⟨hs.memory, hs.latch, hs.error, hs.selectors, hs.gates, hs.prepared⟩

theorem State.Inv.setResult {s : State} (hs : s.Inv) (v : Word) : (s.setResult v).Inv :=
  ⟨hs.memory, hs.latch, hs.error, hs.selectors, hs.gates, hs.prepared⟩

theorem State.Inv.answerPolls {s : State} (hs : s.Inv) : s.answerPolls.Inv := (hs.setBus _).setReply _

theorem State.Inv.complete {s : State} (hs : s.Inv) : s.complete.Inv :=
  ⟨hs.memory, State.latchOk_of_idle rfl, hs.error, hs.selectors, hs.gates, hs.prepared⟩

theorem State.Inv.raiseFault {s : State} (hs : s.Inv) {c : Cause} (hc : c ≠ .none) : (s.raiseFault c).Inv :=
  ⟨hs.memory, State.latchOk_of_idle rfl, fun _ => hc, hs.selectors, hs.gates, hs.prepared⟩

theorem State.Inv.onlyMemory {s t : State} (hs : s.Inv) (h : OnlyMemory s t) (hmem : t.memoryOk) : t.Inv := by
  obtain ⟨m, rfl⟩ := h
  exact ⟨hmem, hs.latch, hs.error, hs.selectors, hs.gates, hs.prepared⟩

/-- The state a reset leaves, whatever the count of resets, meets the invariant (R194). -/
theorem State.takeReset_inv (s : State) : s.takeReset.Inv :=
  ⟨⟨rfl, nofun⟩, nofun, nofun, ⟨rfl, Nat.succ_pos _⟩, .inr rfl, nofun⟩

/-! ### A host access keeps the invariant -/

/-- A word accepted is latched with ARG0 and ARG1 as they stand, and only with ERR at 0 (R31, R53). -/
theorem State.Inv.issue {s : State} (hs : s.Inv) (w : Word) : (s.issue w).Inv := by
  cases herr : s.err with
  | true => rwa [State.issue_of_err herr]
  | false =>
    have hlatch : (s.accept w).latchOk := fun l hl => ⟨(Option.some.inj hl).symm, herr⟩
    rw [State.issue_of_not_err herr]
    exact ⟨hs.memory, hlatch, hs.error, hs.selectors, hs.gates, hs.prepared⟩

theorem State.Inv.writeReg {s : State} (hs : s.Inv) (hidle : s.seq = none) (r : Reg) (v : Word) : (s.writeReg r v).Inv := by
  cases r with
  | cmd => exact hs.issue v
  | status =>
    have herror : (s.writeStatus v).errorOk := fun herr => hs.error (Bool.and_eq_true_iff.mp herr).1
    exact ⟨hs.memory, State.latchOk_of_idle hidle, herror, hs.selectors, hs.gates, hs.prepared⟩
  | _ => exact ⟨hs.memory, State.latchOk_of_idle hidle, hs.error, hs.selectors, hs.gates, hs.prepared⟩

/-- An aligned word of storage written lists its four bytes, all of them storage. -/
theorem State.Inv.writeStorage {s : State} (hs : s.Inv) (v : Word) {off : Nat} (hal : off % 4 = 0)
    (hst : isStorage off = true) : (s.writeWord off v).Inv := by
  obtain ⟨hwf, _⟩ := hs.memory
  have hwrites : WritesWithin (fun a => isStorage a = true) s (s.writeWord off v) :=
    .writeWord s v fun _ => isStorage_word hal hst
  exact hs.onlyMemory (.writeWord s off v)
    (State.memoryOk_of_writesWithin hs.memory (State.wf_writeWord off v hwf) hwrites fun _ => id)

theorem State.Inv.writeWindow {s : State} (hs : s.Inv) (hidle : s.seq = none) (v : Word) {off : Nat} (hal : off % 4 = 0) :
    (s.writeWindow off v).Inv := by
  cases hr : regAt off with
  | some r => rw [s.writeWindow_reg v r hr]; exact hs.writeReg hidle r v
  | none =>
    cases hst : isStorage off with
    | true => rw [s.writeWindow_storage v hst]; exact hs.writeStorage v hal hst
    | false => rwa [s.writeWindow_reserved v hr hst]

theorem State.Inv.perform {s t : State} (hs : s.Inv) (hidle : s.seq = none) {a : BusAccess} (h : s.perform a = .next t) :
    t.Inv := by
  obtain ⟨_, ⟨haligned, rfl⟩ | ⟨_, rfl⟩⟩ := perform_cases h
  · obtain ⟨off, width, op⟩ := a
    obtain ⟨_, hal⟩ := (BusAccess.aligned_iff _).mp haligned
    cases op with
    | read => exact hs.setReply _
    | write v => exact (hs.writeWindow hidle v hal).setReply _
  · exact hs.setReply _

/-! ### A command keeps the invariant -/

theorem commandWork_wf {i : Instr} {s : State} (h : Memory.wf s.mem = true) : Memory.wf (commandWork i s).mem = true := by
  cases i with
  | fftTwgen order inv => exact State.wf_twgen order inv h
  | fftRadix2 order => exact State.wf_radix2 order h
  | fftBitrev order => exact State.wf_bitrev order h
  | modProcess =>
    rw [commandWork, State.processBlock]
    split
    case h_1 c _ => exact State.wf_blockLoop (b := s.openBlock c) (s.snapshot c) s.mod.blockSize.toNat h
    case h_2 => exact h
  | oscSetShape field =>
    obtain ⟨o, ho⟩ := s.selectShape_eq field
    rwa [commandWork, ho]
  | interpNone | interpLinear | interpHermite | oscNext => rwa [commandWork, State.setResult_mem]
  | _ => exact h

theorem commandWork_memoryOk {i : Instr} {s : State} (hs : s.Inv) (hdue : dueFault i s = .none) :
    (commandWork i s).memoryOk := by
  obtain ⟨hwf, _⟩ := hs.memory
  exact State.memoryOk_of_writesWithin hs.memory (commandWork_wf hwf) (commandWork_writesWithin hs.prepared hdue)
    fun _ => commandWrites_storage

theorem nextSelector_lt (sel : BitVec 8) : (nextSelector sel).toNat < Config.numDist := by
  obtain ⟨hpos, hmax⟩ := Config.numDist_bounds
  have hlt : (sel.toNat + 1) % Config.numDist < Config.numDist := Nat.mod_lt _ hpos
  rw [nextSelector, BitVec.toNat_ofNat, Nat.mod_eq_of_lt (by omega)]
  exact hlt

theorem gatesOf_complementary (g : BitVec 2) : gatesOf g = 1#2 ∨ gatesOf g = 2#2 := by
  revert g
  decide

/-- A MOD_PREPARE that faults for no reason has a legal block size (R154). -/
theorem blockSize_of_prepare {s : State} (hdue : dueFault .modPrepare s = .none) :
    1 ≤ s.operands.arg1.toNat ∧ s.operands.arg1.toNat ≤ Config.blockMax := by
  rw [dueFault] at hdue
  split at hdue
  · cases hdue
  · split at hdue
    · cases hdue
    · omega

theorem prepareStrip_length (sr : F32) : (prepareStrip sr).sh.length = Config.numDist := by
  simp [prepareStrip]

theorem State.Inv.prepare {s : State} (hs : s.Inv) (hdue : dueFault .modPrepare s = .none) : s.prepare.Inv := by
  have hprepared : s.prepare.preparedOk := by
    obtain ⟨hpos, hmax⟩ := blockSize_of_prepare hdue
    intro c hc
    cases hc
    exact ⟨hpos, hmax, prepareStrip_length _, prepareStrip_length _⟩
  exact ⟨hs.memory, hs.latch, hs.error, hs.selectors, hs.gates, hprepared⟩

/-- A block steps the shaper states in place, so each channel keeps as many (R142, R145). -/
theorem State.runBlock_length (s : State) (c : Collaborators) :
    (s.runBlock c).strip0.sh.length = c.strip0.sh.length ∧ (s.runBlock c).strip1.sh.length = c.strip1.sh.length :=
  loop_induction
    (fun _ (b : Block) => b.strip0.sh.length = c.strip0.sh.length ∧ b.strip1.sh.length = c.strip1.sh.length)
    ⟨rfl, rfl⟩ fun _ _ _ ⟨h0, h1⟩ => ⟨List.length_set.trans h0, List.length_set.trans h1⟩

theorem State.Inv.closeBlock {s : State} (hs : s.Inv) {c : Collaborators} (hc : s.collab = some c)
    (hmem : (s.closeBlock c).memoryOk) : (s.closeBlock c).Inv := by
  obtain ⟨hpos, hmax, hlen0, hlen1⟩ := hs.prepared c hc
  obtain ⟨hkeep0, hkeep1⟩ := s.runBlock_length c
  obtain ⟨m, hm⟩ := s.closeBlock_eq c
  rw [hm] at hmem ⊢
  refine ⟨hmem, hs.latch, hs.error, hs.selectors, gatesOf_complementary _, fun d hd => ?_⟩
  cases hd
  exact ⟨hpos, hmax, hkeep0.trans hlen0, hkeep1.trans hlen1⟩

theorem commandWork_inv {i : Instr} {s : State} (hs : s.Inv) (hdue : dueFault i s = .none) : (commandWork i s).Inv := by
  have hmem := commandWork_memoryOk hs hdue
  cases i with
  | nop => exact hs
  | oscSetShape field =>
    obtain ⟨o, ho⟩ := s.selectShape_eq field
    rw [commandWork, ho]
    exact hs.setOsc o
  | oscSetSr | oscSetFreq | oscSetPhase | oscAddPhase | oscSetPw => exact hs.setOsc _
  | oscNext => exact (hs.setOsc _).setResult _
  | interpNone | interpLinear | interpHermite => exact hs.setResult _
  | fftTwgen order inv => exact hs.onlyMemory (.twgen s order inv) hmem
  | fftRadix2 order => exact hs.onlyMemory (.radix2 s order) hmem
  | fftBitrev order => exact hs.onlyMemory (.bitrev s order) hmem
  | modPrepare => exact hs.prepare hdue
  | modProcess =>
    rw [commandWork, State.processBlock] at hmem ⊢
    split at hmem
    case h_1 c hc => exact hs.closeBlock hc hmem
    case h_2 => exact hs
  | modNextDist =>
    obtain ⟨hsame, _⟩ := hs.selectors
    have hselectors := And.intro (congrArg nextSelector hsame) (nextSelector_lt s.mod.sel0)
    exact ⟨hmem, hs.latch, hs.error, hselectors, hs.gates, hs.prepared⟩

theorem exec_inv {i : Instr} {s t : State} (hs : s.Inv) (h : exec i s = .next t) : t.Inv := by
  rcases exec_cases h with ⟨hdue, rfl⟩ | ⟨hdue, rfl⟩
  · exact hs.raiseFault hdue
  · exact (commandWork_inv hs hdue).complete

/-- Settles O56: each of the four things a step can do keeps the invariant: a reset, nothing, a host access and the run of the
command in progress. -/
theorem everyStepKeepsTheInvariant : Obligations.EveryStepKeepsTheInvariant := by
  intro s t hs h
  rcases step_cases h with ⟨_, rfl⟩ | ⟨_, _, _, rfl⟩ | ⟨a, rest, _, hidle, _, hperform⟩ | ⟨l, _, _, hrun⟩
  · exact s.takeReset_inv
  · exact hs
  · exact (hs.setBus rest).perform hidle hperform
  · rcases State.runCommand_cases hrun with ⟨i, _, hexec⟩ | rfl
    · exact exec_inv hs.answerPolls hexec
    · exact hs.answerPolls.raiseFault (by decide)

end Sys2Proof.Machine

/-! The encoding (R81 to R92): O1, O2, O3, O6, O4. A word is its four fields (`word_eq_iff_fields`). A word decodes to a command
exactly when its fields are the command's (`decode_eq_ok_iff`), the command's own word has these fields (`carries_encode`), and a
row of the opcode map asks for them in the bits its format does not leave free (`matches_rowOf_iff`). -/

namespace Sys2Proof

open Sys2Proof.Machine Sys2Proof.Laws

/-! ### A word is its fields (R81) -/

theorem fieldOpc_eq_mod (w : Word) : fieldOpc w = w.toNat % 256 := by
  simp [fieldOpc]

theorem fieldA_eq_div_mod (w : Word) : fieldA w = w.toNat / 256 % 16 := by
  simp [fieldA, Nat.shiftRight_eq_div_pow]

theorem fieldI_eq_decide (w : Word) : fieldI w = decide (w.toNat / 4096 % 2 = 1) := by
  rw [fieldI, BitVec.getLsbD, Nat.testBit_eq_decide_div_mod_eq]

theorem fieldRsv_eq_div (w : Word) : fieldRsv w = w.toNat / 8192 := by
  have hlt := w.isLt
  rw [fieldRsv, BitVec.extractLsb'_toNat, Nat.shiftRight_eq_div_pow]
  omega

theorem word_eq_iff_fields {v w : Word} :
    v = w ↔ fieldOpc v = fieldOpc w ∧ fieldA v = fieldA w ∧ fieldI v = fieldI w ∧ fieldRsv v = fieldRsv w := by
  constructor
  · rintro rfl
    exact ⟨rfl, rfl, rfl, rfl⟩
  · rintro ⟨hopc, hfa, hfi, hrsv⟩
    rw [fieldOpc_eq_mod, fieldOpc_eq_mod] at hopc
    rw [fieldA_eq_div_mod, fieldA_eq_div_mod] at hfa
    rw [fieldI_eq_decide, fieldI_eq_decide, decide_eq_decide] at hfi
    rw [fieldRsv_eq_div, fieldRsv_eq_div] at hrsv
    apply BitVec.eq_of_toNat_eq
    omega

theorem packWord_toNat (fi : Bool) (fa : Nat) (opc : Byte) :
    (packWord fi fa opc).toNat = 4096 * fi.toNat + 256 * (fa % 16) + opc.toNat := by
  simp only [packWord, toNat_append_eq, BitVec.toNat_ofBool, BitVec.toNat_ofNat]
  omega

theorem fieldA_packWord (fi : Bool) (fa : Nat) (opc : Byte) : fieldA (packWord fi fa opc) = fa % 16 := by
  have hopc := opc.isLt
  rw [fieldA_eq_div_mod, packWord_toNat]
  omega

theorem fieldI_packWord (fi : Bool) (fa : Nat) (opc : Byte) : fieldI (packWord fi fa opc) = fi := by
  have hopc := opc.isLt
  have hfi : (4096 * fi.toNat + 256 * (fa % 16) + opc.toNat) / 4096 % 2 = fi.toNat := by
    have := fi.toNat_lt
    omega
  rw [fieldI_eq_decide, packWord_toNat, hfi]
  cases fi <;> rfl

/-! ### The fields a command asks for (R82, R87) -/

/-- The value of FA in a command's word: 0 where its format does not use FA. -/
def operandOf : Instr → Nat
  | .oscSetShape n | .fftTwgen n _ | .fftRadix2 n | .fftBitrev n => n
  | _ => 0

/-- The value of FI in a command's word: 0 where its format does not use FI. -/
def flagOf : Instr → Bool
  | .fftTwgen _ inv => inv
  | _ => false

/-- The fields of the word are the command's. -/
structure Carries (w : Word) (i : Instr) : Prop where
  opc : fieldOpc w = opcodeOf i
  fa : fieldA w = operandOf i
  fi : fieldI w = flagOf i
  rsv : fieldRsv w = 0

theorem Carries.word_unique {v w : Word} {i : Instr} (hv : Carries v i) (hw : Carries w i) : v = w :=
  word_eq_iff_fields.mpr
    ⟨hv.opc.trans hw.opc.symm, hv.fa.trans hw.fa.symm, hv.fi.trans hw.fi.symm, hv.rsv.trans hw.rsv.symm⟩

theorem encode_eq_packWord (i : Instr) : encode i = packWord (flagOf i) (operandOf i) (BitVec.ofNat 8 (opcodeOf i)) := by
  cases i <;> rfl

theorem toNat_opcodeOf (i : Instr) : (BitVec.ofNat 8 (opcodeOf i)).toNat = opcodeOf i := by
  cases i <;> rfl

theorem operandOf_lt {i : Instr} (h : i.wellFormed = true) : operandOf i < 16 := by
  cases i
  case oscSetShape | fftTwgen | fftRadix2 | fftBitrev => exact Nat.lt_succ_of_le (of_decide_eq_true h)
  all_goals exact Nat.zero_lt_succ 15

theorem carries_encode {i : Instr} (h : i.wellFormed = true) : Carries (encode i) i := by
  rw [encode_eq_packWord]
  exact
    { opc := (fieldOpc_packWord _ _ _).trans (toNat_opcodeOf i)
      fa := (fieldA_packWord _ _ _).trans (Nat.mod_eq_of_lt (operandOf_lt h))
      fi := fieldI_packWord _ _ _
      rsv := fieldRsv_packWord _ _ _ }

/-! ### The decoder reads the fields (R86, R89) -/

theorem decodeN_eq_ok_iff {w : Word} {i j : Instr} :
    decodeN w i = .ok j ↔ (fieldA w = 0 ∧ fieldI w = false ∧ fieldRsv w = 0) ∧ i = j := by
  unfold decodeN
  split <;> simp [*]

theorem decodeA_eq_ok_iff {w : Word} {mk : Nat → Instr} {j : Instr} :
    decodeA w mk = .ok j ↔ (fieldI w = false ∧ fieldRsv w = 0) ∧ mk (fieldA w) = j := by
  unfold decodeA
  split <;> simp [*]

theorem decodeAI_eq_ok_iff {w : Word} {mk : Nat → Bool → Instr} {j : Instr} :
    decodeAI w mk = .ok j ↔ fieldRsv w = 0 ∧ mk (fieldA w) (fieldI w) = j := by
  unfold decodeAI
  split <;> simp [*]

theorem carries_of_decode {w : Word} {i : Instr} (h : decode w = .ok i) : Carries w i := by
  unfold decode at h
  split at h
  case h_2 hopc | h_13 hopc | h_14 hopc =>
    obtain ⟨⟨hfi, hrsv⟩, rfl⟩ := decodeA_eq_ok_iff.mp h
    exact ⟨hopc, rfl, hfi, hrsv⟩
  case h_12 hopc =>
    obtain ⟨hrsv, rfl⟩ := decodeAI_eq_ok_iff.mp h
    exact ⟨hopc, rfl, rfl, hrsv⟩
  case h_18 => cases h
  all_goals
    obtain ⟨⟨hfa, hfi, hrsv⟩, rfl⟩ := decodeN_eq_ok_iff.mp h
    exact ⟨‹_›, hfa, hfi, hrsv⟩

theorem decode_of_carries {w : Word} {i : Instr} (h : Carries w i) : decode w = .ok i := by
  obtain ⟨hopc, hfa, hfi, hrsv⟩ := h
  rw [decode, hopc]
  cases i
  case oscSetShape | fftRadix2 | fftBitrev => exact decodeA_eq_ok_iff.mpr ⟨⟨hfi, hrsv⟩, congrArg _ hfa⟩
  case fftTwgen => exact decodeAI_eq_ok_iff.mpr ⟨hrsv, congrArg₂ _ hfa hfi⟩
  all_goals exact decodeN_eq_ok_iff.mpr ⟨⟨hfa, hfi, hrsv⟩, rfl⟩

theorem decode_eq_ok_iff {w : Word} {i : Instr} : decode w = .ok i ↔ Carries w i :=
  ⟨carries_of_decode, decode_of_carries⟩

/-- Settles O1: the word of a command that can be encoded carries its fields. -/
theorem decodeEncodeRoundTrip : Obligations.DecodeEncodeRoundTrip :=
  fun _ hwf => decode_eq_ok_iff.mpr (carries_encode hwf)

/-- Settles O2: the word and the encoding carry the same fields, and only one word does. -/
theorem decodedWordIsItsEncoding : Obligations.DecodedWordIsItsEncoding := by
  intro w i h
  have hwf := decode_wellFormed h
  exact ⟨hwf, (carries_encode hwf).word_unique (decode_eq_ok_iff.mp h)⟩

/-! ### The rows of the opcode map (R82, R87) -/

/-- The bits of a command's word its format fixes: all but FA in formats S and L, all but FA and FI in format LI (R82). -/
def fixedBits : Instr → Word
  | .oscSetShape _ | .fftRadix2 _ | .fftBitrev _ => 0xFFFFF0FF#32
  | .fftTwgen _ _ => 0xFFFFE0FF#32
  | _ => 0xFFFFFFFF#32

/-- The row of the opcode map that is the command's. -/
def rowOf (i : Instr) : OpcodeRow := ⟨fixedBits i, packWord false 0 (BitVec.ofNat 8 (opcodeOf i))⟩

/-- The command of the same row that holds the given fields, as far as its format uses them. -/
def Instr.withFields (i : Instr) (n : Nat) (inv : Bool) : Instr :=
  match i with
  | .oscSetShape _ => .oscSetShape n
  | .fftTwgen _ _ => .fftTwgen n inv
  | .fftRadix2 _ => .fftRadix2 n
  | .fftBitrev _ => .fftBitrev n
  | i => i

theorem rowOf_withFields (i : Instr) (n : Nat) (inv : Bool) : rowOf (i.withFields n inv) = rowOf i := by
  cases i <;> rfl

theorem withFields_of_carries {w : Word} {i : Instr} (h : Carries w i) : i.withFields (fieldA w) (fieldI w) = i := by
  rw [h.fa, h.fi]
  cases i <;> rfl

/-- One command of each row, in the order of the table. -/
def rowCommands : List Instr :=
  [.nop, .oscSetShape 0, .oscSetSr, .oscSetFreq, .oscSetPhase, .oscAddPhase, .oscSetPw, .oscNext, .interpNone,
    .interpLinear, .interpHermite, .fftTwgen 0 false, .fftRadix2 0, .fftBitrev 0, .modPrepare, .modProcess, .modNextDist]

theorem opcodeRows_eq : opcodeRows = rowCommands.map rowOf := by
  decide

theorem rowOf_mem (i : Instr) : rowOf i ∈ opcodeRows := by
  have hmem : i.withFields 0 false ∈ rowCommands := by
    cases i <;> simp [Instr.withFields, rowCommands]
  rw [opcodeRows_eq, ← rowOf_withFields i 0 false]
  exact List.mem_map_of_mem hmem

/-- A word is a row's of the table when it is the row's of some command. -/
theorem inOpcodeTable_iff {w : Word} : inOpcodeTable w ↔ ∃ i, w &&& (rowOf i).mask = (rowOf i).pattern := by
  constructor
  · rintro ⟨r, hr, hw⟩
    rw [opcodeRows_eq] at hr
    obtain ⟨i, _, rfl⟩ := List.mem_map.mp hr
    exact ⟨i, hw⟩
  · rintro ⟨i, hw⟩
    exact ⟨rowOf i, rowOf_mem i, hw⟩

theorem extractLsb'_and_allOnes {w m : Word} {start len : Nat} (h : m.extractLsb' start len = BitVec.allOnes len) :
    (w &&& m).extractLsb' start len = w.extractLsb' start len := by
  rw [BitVec.extractLsb'_and, h, BitVec.and_allOnes]

theorem extractLsb'_and_zero {w m : Word} {start len : Nat} (h : m.extractLsb' start len = 0#len) :
    (w &&& m).extractLsb' start len = 0#len := by
  rw [BitVec.extractLsb'_and, h, BitVec.and_zero]

theorem fieldOpc_and_fixedBits (w : Word) (i : Instr) : fieldOpc (w &&& fixedBits i) = fieldOpc w := by
  have hkeep : (fixedBits i).extractLsb' 0 8 = BitVec.allOnes 8 := by
    cases i <;> simp only [fixedBits] <;> rfl
  exact congrArg BitVec.toNat (extractLsb'_and_allOnes hkeep)

theorem fieldRsv_and_fixedBits (w : Word) (i : Instr) : fieldRsv (w &&& fixedBits i) = fieldRsv w := by
  have hkeep : (fixedBits i).extractLsb' 13 19 = BitVec.allOnes 19 := by
    cases i <;> simp only [fixedBits] <;> rfl
  exact congrArg BitVec.toNat (extractLsb'_and_allOnes hkeep)

/-- FA is masked out exactly where the format uses it. -/
theorem fieldA_and_fixedBits_eq_zero_iff (w : Word) (i : Instr) :
    fieldA (w &&& fixedBits i) = 0 ↔ fieldA w = operandOf (i.withFields (fieldA w) (fieldI w)) := by
  cases i <;> simp only [fixedBits]
  case oscSetShape | fftTwgen | fftRadix2 | fftBitrev =>
    exact iff_of_true (congrArg BitVec.toNat (extractLsb'_and_zero rfl)) rfl
  all_goals exact Eq.congr_left (congrArg BitVec.toNat (extractLsb'_and_allOnes rfl))

/-- FI is masked out exactly where the format uses it. -/
theorem fieldI_and_fixedBits_eq_false_iff (w : Word) (i : Instr) :
    fieldI (w &&& fixedBits i) = false ↔ fieldI w = flagOf (i.withFields (fieldA w) (fieldI w)) := by
  have hand : fieldI (w &&& fixedBits i) = (fieldI w && fieldI (fixedBits i)) := BitVec.getLsbD_and
  rw [hand]
  cases i <;> simp only [fixedBits]
  case fftTwgen => exact iff_of_true (Bool.and_false _) rfl
  all_goals exact Eq.congr_left (Bool.and_true _)

theorem matches_rowOf_iff {w : Word} {i : Instr} :
    w &&& (rowOf i).mask = (rowOf i).pattern ↔ Carries w (i.withFields (fieldA w) (fieldI w)) := by
  have hopcode : opcodeOf (i.withFields (fieldA w) (fieldI w)) = opcodeOf i := by
    cases i <;> rfl
  rw [rowOf, word_eq_iff_fields, fieldOpc_packWord, fieldA_packWord, fieldI_packWord, fieldRsv_packWord,
    fieldOpc_and_fixedBits, fieldRsv_and_fixedBits, Nat.zero_mod, fieldA_and_fixedBits_eq_zero_iff,
    fieldI_and_fixedBits_eq_false_iff, toNat_opcodeOf, ← hopcode]
  exact ⟨fun ⟨hopc, hfa, hfi, hrsv⟩ => ⟨hopc, hfa, hfi, hrsv⟩, fun ⟨hopc, hfa, hfi, hrsv⟩ => ⟨hopc, hfa, hfi, hrsv⟩⟩

/-- Settles O3: a word that decodes is the row's of its command, and a word of a command's row decodes to that command with the
word's own fields. -/
theorem decoderTakesExactlyTheTable : Obligations.DecoderTakesExactlyTheTable := by
  intro w
  rw [inOpcodeTable_iff]
  constructor
  · rintro ⟨i, hd⟩
    have hcarries := decode_eq_ok_iff.mp hd
    refine ⟨i, matches_rowOf_iff.mpr ?_⟩
    rwa [withFields_of_carries hcarries]
  · rintro ⟨i, hrow⟩
    exact ⟨_, decode_eq_ok_iff.mpr (matches_rowOf_iff.mp hrow)⟩

/-! ### A word of no row, in a BUSY core (R88, R89, R172) -/

theorem runCommand_of_not_inOpcodeTable (s : State) {w : Word} (h : ¬ inOpcodeTable w) :
    s.runCommand w = .next (s.raiseFault .illegalCmd) := by
  unfold State.runCommand
  split
  case h_1 i hd => exact absurd ((decoderTakesExactlyTheTable w).mp ⟨i, hd⟩) h
  case h_2 => exact trap_eq s .illegalCmd

theorem raiseFault_of_busy {s : State} {l : Latched} (h : s.seq = some l) (c : Cause) :
    s.raiseFault c = { s with errCause := c, errCmd := l.word, err := true, seq := none } := by
  rw [State.raiseFault, State.operands_of_busy h]

/-- Settles O6: the decoder takes no word outside the table, and a BUSY core's latched word is the one it faults on. -/
theorem illegalWordsFault : Obligations.IllegalWordsFault := by
  intro s l hillegal
  have hstep (hr : s.resetIn = false) (hs : s.seq = some l) :
      step s = .next { s.answerPolls with errCause := .illegalCmd, errCmd := l.word, err := true, seq := none } := by
    rw [step_of_busy hr hs, runCommand_of_not_inOpcodeTable _ hillegal, raiseFault_of_busy (s.answerPolls_seq.trans hs)]
  refine ⟨fun hready => ?_, fun hr hs => ⟨hstep hr hs, rfl⟩⟩
  have hpolls := State.answerPolls_of_readyToRun hready
  obtain ⟨hr, hs, _⟩ := hready
  rw [hstep hr hs, hpolls]

/-! ### Words written out (R92) -/

/-- Settles O4: each word that decodes is its command's encoding; the two that do not are rejected by name. -/
theorem writtenWordsDecode : Obligations.WrittenWordsDecode :=
  have decoded := decodeEncodeRoundTrip
  ⟨decoded .nop rfl, decoded (.oscSetShape 1) rfl, decoded .oscNext rfl, decoded .interpHermite rfl,
    decoded (.fftTwgen 12 true) rfl, decoded (.fftRadix2 13) rfl, decoded .modNextDist rfl, by decide, by decide⟩

end Sys2Proof

/-! The oscillator (R97 to R112): O23 to O30 and O32. A command is its stage 5 and completion (`exec_eq`). The waveforms and the phase
advance are binary32 arithmetic on finite values, which two facts carry: a comparison of finite values is the comparison of the
rationals they stand for, and rounding does not carry a result past a finite value that bounds the exact one. -/

namespace Sys2Proof.Machine

open Sys2Proof

/-! ### Places in the numerical order (R12) -/

theorem natAbs_fKey (a : F32) : (fKey a).natAbs = fMag a := by
  rw [fKey]
  split <;> omega

theorem fKey_eq_zero_iff {a : F32} : fKey a = 0 ↔ fMag a = 0 := by
  rw [← natAbs_fKey, Int.natAbs_eq_zero]

theorem fKey_pos_iff {a : F32} : 0 < fKey a ↔ fSign a = false ∧ fMag a ≠ 0 := by
  cases hs : fSign a <;> simp [fKey, hs, Nat.pos_iff_ne_zero]

theorem fKey_neg_iff {a : F32} : fKey a < 0 ↔ fSign a = true ∧ fMag a ≠ 0 := by
  cases hs : fSign a <;> simp [fKey, hs, Nat.pos_iff_ne_zero]

theorem flt_iff {a b : F32} : flt a b = true ↔ (fIsNaN a = false ∧ fIsNaN b = false) ∧ fKey a < fKey b := by
  simp [flt]

theorem fle_iff {a b : F32} : fle a b = true ↔ (fIsNaN a = false ∧ fIsNaN b = false) ∧ fKey a ≤ fKey b := by
  simp [fle]

theorem feq_iff {a b : F32} : feq a b = true ↔ (fIsNaN a = false ∧ fIsNaN b = false) ∧ fKey a = fKey b := by
  simp [feq]

theorem flt_of_nan_left {a : F32} (b : F32) (h : fIsNaN a = true) : flt a b = false := by simp [flt, h]
theorem flt_of_nan_right (a : F32) {b : F32} (h : fIsNaN b = true) : flt a b = false := by simp [flt, h]
theorem fle_of_nan_left {a : F32} (b : F32) (h : fIsNaN a = true) : fle a b = false := by simp [fle, h]

theorem flt_eq_false_of_fle {a b : F32} (h : fle a b = true) : flt b a = false := by
  obtain ⟨_, hkey⟩ := fle_iff.mp h
  exact Bool.eq_false_iff.mpr fun hlt => absurd (flt_iff.mp hlt).2 (not_lt.mpr hkey)

/-- What lies between two finite values is finite. -/
theorem fIsFinite_of_between {a b v : F32} (ha : fIsFinite a = true) (hb : fIsFinite b = true)
    (hav : fKey a ≤ fKey v) (hvb : fKey v ≤ fKey b) : fIsFinite v = true := by
  rw [fIsFinite_iff, ← natAbs_fKey] at *
  omega

/-- What is neither finite nor a NaN is an infinity. -/
theorem fIsNaN_or_eq_fInf {a : F32} (h : fIsFinite a = false) : fIsNaN a = true ∨ a = fInf (fSign a) := by
  rw [fIsFinite, decide_eq_false_iff_not, not_lt] at h
  rcases h.lt_or_eq with hgt | heq
  · exact .inl (decide_eq_true hgt)
  · exact .inr ((eq_fPack_iff (by decide)).mpr ⟨rfl, heq.symm⟩)

/-! ### Comparisons of finite values -/

theorem f32Value_eq_keyUnits (a : F32) : f32Value a = (keyUnits (fKey a) : ℚ) / 2 ^ 149 := by
  rw [keyUnits_fKey, f32Value]

theorem f32Value_lt_iff {a b : F32} : f32Value a < f32Value b ↔ fKey a < fKey b := by
  rw [f32Value_eq_keyUnits, f32Value_eq_keyUnits, div_lt_div_iff_of_pos_right (by positivity), Int.cast_lt,
    keyUnits_strictMono.lt_iff_lt]

theorem f32Value_le_iff {a b : F32} : f32Value a ≤ f32Value b ↔ fKey a ≤ fKey b := by
  rw [← not_lt, f32Value_lt_iff, not_lt]

theorem flt_iff_f32Value {a b : F32} (ha : fIsFinite a = true) (hb : fIsFinite b = true) :
    flt a b = true ↔ f32Value a < f32Value b := by
  simp [flt_iff, fIsNaN_of_finite, ha, hb, f32Value_lt_iff]

theorem fle_iff_f32Value {a b : F32} (ha : fIsFinite a = true) (hb : fIsFinite b = true) :
    fle a b = true ↔ f32Value a ≤ f32Value b := by
  simp [fle_iff, fIsNaN_of_finite, ha, hb, f32Value_le_iff]

theorem feq_iff_f32Value {a b : F32} (ha : fIsFinite a = true) (hb : fIsFinite b = true) :
    feq a b = true ↔ f32Value a = f32Value b := by
  rw [feq_iff, le_antisymm_iff (a := f32Value a), f32Value_le_iff, f32Value_le_iff, ← le_antisymm_iff]
  simp [fIsNaN_of_finite, ha, hb]

/-! ### Rounding keeps finite bounds (R9) -/

theorem isNearestEven.le_of_le {a v : F32} {r : ℚ} (h : isNearestEven v r) (ha : fIsFinite a = true)
    (har : f32Value a ≤ r) : f32Value a ≤ f32Value v := by
  by_contra hlt
  have hnear := (h.2 a ha).1
  rw [abs_of_nonpos (by linarith), abs_of_nonpos (by linarith)] at hnear
  linarith

theorem isNearestEven.ge_of_ge {b v : F32} {r : ℚ} (h : isNearestEven v r) (hb : fIsFinite b = true)
    (hrb : r ≤ f32Value b) : f32Value v ≤ f32Value b := by
  by_contra hlt
  have hnear := (h.2 b hb).1
  rw [abs_of_nonneg (by linarith), abs_of_nonneg (by linarith)] at hnear
  linarith

theorem abs_f32Value_lt_overflowBound {a : F32} (ha : fIsFinite a = true) : |f32Value a| < overflowBound := by
  have hmax : (magUnits (fMag a) : ℚ) < magUnits 0x7F800000 := by
    exact_mod_cast magUnits_strictMono (fIsFinite_iff.mp ha)
  have hle : (magUnits (fMag a) : ℚ) ≤ magUnits 0x7F7FFFFF := by
    exact_mod_cast magUnits_strictMono.monotone (Nat.le_pred_of_lt (fIsFinite_iff.mp ha))
  rw [f32Value_eq, abs_mul, abs_signFactor, one_mul, abs_of_nonneg (by positivity), div_lt_iff₀ (by positivity),
    overflowBound_units]
  linarith

/-- A rounding of a number between two finite values is to nearest: it does not overflow. -/
theorem isRounded.isNearestEven_of_between {a b v : F32} {r : ℚ} (h : isRounded v r) (ha : fIsFinite a = true)
    (hb : fIsFinite b = true) (har : f32Value a ≤ r) (hrb : r ≤ f32Value b) : isNearestEven v r := by
  rw [isRounded, if_pos] at h
  · exact h
  · obtain ⟨hlo, _⟩ := abs_lt.mp (abs_f32Value_lt_overflowBound ha)
    obtain ⟨_, hhi⟩ := abs_lt.mp (abs_f32Value_lt_overflowBound hb)
    exact abs_lt.mpr ⟨by linarith, by linarith⟩

theorem isRounded.between {a b v : F32} {r : ℚ} (h : isRounded v r) (ha : fIsFinite a = true) (hb : fIsFinite b = true)
    (har : f32Value a ≤ r) (hrb : r ≤ f32Value b) :
    fIsFinite v = true ∧ f32Value a ≤ f32Value v ∧ f32Value v ≤ f32Value b :=
  have hnear := h.isNearestEven_of_between ha hb har hrb
  ⟨hnear.1, hnear.le_of_le ha har, hnear.ge_of_ge hb hrb⟩

/-! ### The commands (R104 to R110) -/

/-- Settles O23, by the four kinds of SHAPE field. -/
theorem oscSetShapeSetsOrFaults : Obligations.OscSetShapeSetsOrFaults := by
  intro s n
  refine ⟨fun hn => ?_, fun hn => ?_⟩
  · match n, hn with
    | 0, _ => exact ⟨.sine, rfl, rfl⟩
    | 1, _ => exact ⟨.triangle, rfl, rfl⟩
    | 2, _ => exact ⟨.square, rfl, rfl⟩
  · have hdue : dueFault (.oscSetShape n) s = .badShape := if_pos hn
    rw [exec_eq, hdue]
    rfl

/-- Settles O24: no check of these commands can fail, so each is its work and completion (`exec_eq`). -/
theorem oscRawSettersStoreBits : Obligations.OscRawSettersStoreBits :=
  fun s => ⟨exec_eq .oscSetSr s, exec_eq .oscSetPhase s, exec_eq .oscSetPw s⟩

/-- Settles O25: the quotients are those of a division by zero (`fdiv_zero`), by the place of `f` in the order. -/
theorem oscSetFreqDivides : Obligations.OscSetFreqDivides := by
  have hkey : fKey fZero = 0 := by decide
  have hsign : fSign fZero = false := by decide
  have hmag : fMag fZero = 0 := by decide
  refine fun s => ⟨exec_eq .oscSetFreq s, fun f => ⟨fun h => ?_, fun h => ?_, fun h => ?_, fun h => ?_⟩⟩
  · obtain ⟨⟨_, hnan⟩, hlt⟩ := flt_iff.mp h
    obtain ⟨hpos, hne⟩ := fKey_pos_iff.mp (hkey ▸ hlt)
    rw [fdiv_zero hnan hmag, if_neg hne, hpos, hsign]
    rfl
  · obtain ⟨⟨hnan, _⟩, hlt⟩ := flt_iff.mp h
    obtain ⟨hneg, hne⟩ := fKey_neg_iff.mp (hkey ▸ hlt)
    rw [fdiv_zero hnan hmag, if_neg hne, hneg, hsign]
    rfl
  · obtain ⟨⟨hnan, _⟩, heq⟩ := feq_iff.mp h
    rw [fdiv_zero hnan hmag, if_pos (fKey_eq_zero_iff.mp (heq.trans hkey))]
  · exact (arithmetic_nan_operand (.inl h)).2.2.2

/-- Settles O26: no check can fail, and the work is the pseudocode of R98. -/
theorem oscAddPhaseAdvances : Obligations.OscAddPhaseAdvances :=
  fun s => exec_eq .oscAddPhase s

/-- Settles O28: no check can fail, and the work writes the waveform's value beside the advanced phase. -/
theorem oscNextReturnsThenAdvances : Obligations.OscNextReturnsThenAdvances :=
  fun s => exec_eq .oscNext s

/-- The work of every command but three leaves the phase alone (R111). -/
theorem commandWork_phase {i : Instr} (s : State) (hset : i ≠ .oscSetPhase) (hadd : i ≠ .oscAddPhase) (hnext : i ≠ .oscNext) :
    (commandWork i s).osc.phase = s.osc.phase := by
  have honly {t : State} (h : OnlyMemory s t) : t.osc.phase = s.osc.phase := by
    obtain ⟨m, rfl⟩ := h
    rfl
  cases i with
  | oscSetPhase => exact absurd rfl hset
  | oscAddPhase => exact absurd rfl hadd
  | oscNext => exact absurd rfl hnext
  | fftTwgen log2n inv => exact honly (.twgen s log2n inv)
  | fftRadix2 log2n => exact honly (.radix2 s log2n)
  | fftBitrev log2n => exact honly (.bitrev s log2n)
  | oscSetShape field =>
    rw [commandWork, State.selectShape]
    split <;> rfl
  | modProcess =>
    rw [commandWork, State.processBlock]
    split
    case h_1 c _ =>
      obtain ⟨m, hm⟩ := s.closeBlock_eq c
      rw [hm]
    case h_2 => rfl
  | _ => rfl

/-- Settles O32: the recording of a fault leaves the oscillator alone, and so does the work of every other command. -/
theorem onlyThreeCommandsMoveThePhase : Obligations.OnlyThreeCommandsMoveThePhase := by
  intro i s t hset hadd hnext h
  rcases exec_cases h with ⟨_, rfl⟩ | ⟨_, rfl⟩
  · rw [State.raiseFault_osc]
  · rw [State.complete_osc, commandWork_phase s hset hadd hnext]

/-! ### The phase advance (R98) -/

/-- An exact positive sum keeps its sign through the rounding, so it does not give -0. -/
theorem fSign_fadd_of_pos {a b : F32} (ha : fIsFinite a = true) (hb : fIsFinite b = true)
    (h : 0 < f32Value a + f32Value b) : fSign (fadd a b) = false := by
  have hsum : 0 < fSigned a + fSigned b := by
    rw [f32Value, f32Value, ← add_div, div_pos_iff_of_pos_right (by positivity)] at h
    exact_mod_cast h
  rw [fadd_of_finite ha hb, if_neg hsum.ne', fSign_roundUnits, decide_eq_false (not_lt.mpr hsum.le)]

/-- What is left of a finite sum below its floor is the fractional part, rounded. -/
theorem fsub_ffloor_isNearest {t : F32} (ht : fIsFinite t = true) :
    isNearestEven (fsub t (ffloor t)) (Int.fract (f32Value t)) := by
  obtain ⟨hfin, hfloor⟩ := ffloor_exact ht
  obtain ⟨hzero, _, hone⟩ := f32Value_constants
  have h := fsub_isRounded ht hfin
  rw [hfloor] at h
  refine h.isNearestEven_of_between (a := fZero) (b := fOne) (by decide) (by decide) ?_ ?_
  · rw [hzero]; exact Int.fract_nonneg _
  · rw [hone]; exact (Int.fract_lt_one _).le

theorem fsub_ffloor_ne_negZero {t : F32} (ht : fIsFinite t = true) : fsub t (ffloor t) ≠ 0x80000000#32 := by
  obtain ⟨hfin, hfloor⟩ := ffloor_exact ht
  rcases (Int.fract_nonneg (f32Value t)).eq_or_lt with hzero | hpos
  · rw [fsub_of_zero_difference ht hfin (by rw [hfloor]; exact hzero.symm), if_neg]
    · decide
    · rintro ⟨rfl, hf⟩
      exact absurd hf (by decide)
  · have hsign : fSign (fsub t (ffloor t)) = false :=
      fSign_fadd_of_pos ht (by rwa [fIsFinite_fneg]) (by rwa [f32Value_fneg, hfloor, ← sub_eq_add_neg])
    intro heq
    rw [heq] at hsign
    exact absurd hsign (by decide)

/-- The fix-up takes a value in [0, 1] to one in [0, 1), and brings in no -0. -/
theorem wrapFixup_normalised {r : F32} (hfin : fIsFinite r = true) (hlo : 0 ≤ f32Value r) (hhi : f32Value r ≤ 1)
    (hne : r ≠ 0x80000000#32) : inUnitInterval (wrapFixup r) ∧ wrapFixup r ≠ 0x80000000#32 := by
  obtain ⟨hzero, _, hone⟩ := f32Value_constants
  unfold wrapFixup
  split
  case isTrue => exact ⟨⟨by decide, by decide⟩, by decide⟩
  case isFalse heq =>
    rw [feq_iff_f32Value hfin (by decide), hone] at heq
    refine ⟨⟨?_, ?_⟩, hne⟩
    · rwa [fle_iff_f32Value (by decide) hfin, hzero]
    · rw [flt_iff_f32Value hfin (by decide), hone]
      exact hhi.lt_of_ne heq

theorem advancePhase_normalised {p o : F32} (ht : fIsFinite (fadd p o) = true) :
    inUnitInterval (advancePhase p o) ∧ advancePhase p o ≠ 0x80000000#32 := by
  obtain ⟨hzero, _, hone⟩ := f32Value_constants
  have hnear := fsub_ffloor_isNearest ht
  have hlo := hnear.le_of_le (a := fZero) (by decide) (by rw [hzero]; exact Int.fract_nonneg _)
  have hhi := hnear.ge_of_ge (b := fOne) (by decide) (by rw [hone]; exact (Int.fract_lt_one _).le)
  exact wrapFixup_normalised hnear.1 (hzero ▸ hlo) (hone ▸ hhi) (fsub_ffloor_ne_negZero ht)

/-- The values the fix-up turns on: the value before 1.0 and the bound -2^-25, half a step from it. -/
theorem f32Value_wrapBounds : f32Value 0x3F7FFFFF#32 = 1 - 2 / 2 ^ 25 ∧ f32Value 0xB3000000#32 = -1 / 2 ^ 25 := by
  have hpred : fSigned 0x3F7FFFFF#32 = (2 ^ 24 - 1) * 2 ^ 125 := by decide
  have hbound : fSigned 0xB3000000#32 = -2 ^ 124 := by decide
  rw [f32Value, f32Value, hpred, hbound]
  norm_num

/-- From half a step below 1.0 on, rounding gives 1.0: the value before it is no nearer, and is odd in a tie (R98). -/
theorem eq_fOne_of_isNearestEven {v : F32} {x : ℚ} (h : isNearestEven v x) (hlo : 1 - 1 / 2 ^ 25 ≤ x) (hhi : x ≤ 1) :
    v = fOne := by
  obtain ⟨_, _, hone⟩ := f32Value_constants
  obtain ⟨hpred, _⟩ := f32Value_wrapBounds
  have hge := h.le_of_le (a := 0x3F7FFFFF#32) (by decide) (by rw [hpred]; linarith)
  have hle := h.ge_of_ge (b := fOne) (by decide) (hone ▸ hhi)
  rw [f32Value_le_iff] at hge hle
  have hkeys : fKey 0x3F7FFFFF#32 = 0x3F7FFFFF ∧ fKey fOne = 0x3F800000 := by decide
  have hsign : fSign v = false := (fKey_pos_iff.mp (by omega)).1
  have hmag : fKey v = fMag v := by rw [fKey, hsign, if_neg (by decide)]
  have hcases : fMag v = 0x3F7FFFFF ∨ fMag v = 0x3F800000 := by omega
  rcases hcases with hm | hm
  · obtain rfl : v = 0x3F7FFFFF#32 := (eq_fPack_iff (neg := false) (by decide)).mpr ⟨hsign, hm⟩
    obtain ⟨hnear, htie⟩ := h.2 fOne (by decide)
    rw [hpred, hone, abs_of_nonneg (a := 1 - x) (by linarith), abs_of_nonpos (by linarith)] at hnear htie
    exact absurd (htie (by norm_num) (by linarith)) (by decide)
  · exact (eq_fPack_iff (neg := false) (by decide)).mpr ⟨hsign, hm⟩

/-- A sum from -2^-25 up to below 0 is 1.0 above its floor, and the fix-up makes it +0.0. -/
theorem fsub_ffloor_eq_fOne {t : F32} (hlo : fle 0xB3000000#32 t = true) (hhi : flt t fZero = true) :
    fsub t (ffloor t) = fOne := by
  obtain ⟨hzero, _, _⟩ := f32Value_constants
  obtain ⟨_, hbound⟩ := f32Value_wrapBounds
  have ht : fIsFinite t = true :=
    fIsFinite_of_between (a := 0xB3000000#32) (b := fZero) (by decide) (by decide) (fle_iff.mp hlo).2 (flt_iff.mp hhi).2.le
  rw [fle_iff_f32Value (by decide) ht, hbound] at hlo
  rw [flt_iff_f32Value ht (by decide), hzero] at hhi
  have hfract : Int.fract (f32Value t) = f32Value t + 1 :=
    Int.fract_eq_iff.mpr ⟨by linarith, by linarith, -1, by push_cast; ring⟩
  exact eq_fOne_of_isNearestEven (hfract ▸ fsub_ffloor_isNearest ht) (by linarith) (by linarith)

/-- An infinity or NaN less its floor is the canonical NaN (R98). -/
theorem fsub_ffloor_of_not_finite {t : F32} (h : fIsFinite t = false) : fsub t (ffloor t) = canonicalNaN := by
  rcases fIsNaN_or_eq_fInf h with hnan | hinf
  · exact (arithmetic_nan_operand (.inl hnan)).2.1
  · rw [hinf, ffloor_of_inf (fIsInf_fInf _), fsub_inf_inf, if_pos rfl]

theorem advancePhase_of_not_finite {p o : F32} (h : fIsFinite (fadd p o) = false) : advancePhase p o = canonicalNaN := by
  rw [advancePhase, fsub_ffloor_of_not_finite h]
  decide

/-- Settles O27: the phase is the rounded fractional part of the sum, which the fix-up keeps off 1.0. -/
theorem advancedPhaseIsNormalised : Obligations.AdvancedPhaseIsNormalised := by
  refine fun p o => ⟨rfl, advancePhase_normalised, fun hlo hhi => ?_, advancePhase_of_not_finite, fun hnan => ?_⟩
  · have hr := fsub_ffloor_eq_fOne hlo hhi
    refine ⟨hr, ?_⟩
    rw [advancePhase, hr]
    decide
  · apply advancePhase_of_not_finite
    rw [(arithmetic_nan_operand (.inl hnan)).1]
    decide

/-! ### The triangle (R100) -/

theorem f32Value_fMinusOne : f32Value fMinusOne = -1 := by
  have hunits : fSigned fMinusOne = -2 ^ 149 := by decide
  rw [f32Value, hunits]
  norm_num

theorem f32Value_fFour : f32Value fFour = 4 := by
  have hunits : fSigned fFour = 2 ^ 151 := by decide
  rw [f32Value, hunits]
  norm_num

theorem f32Value_two : f32Value 0x40000000#32 = 2 := by
  have hunits : fSigned 0x40000000#32 = 2 ^ 150 := by decide
  rw [f32Value, hunits]
  norm_num

/-- The folded phase of the triangle: `p` up to 0.5 and `1 - p` beyond. -/
def triangleFold (p : F32) : F32 := if fle p fHalf then p else fsub fOne p

theorem triangleWave_eq (p : F32) : triangleWave p = fsub (fmul fFour (triangleFold p)) fOne := rfl

theorem triangleFold_range {p : F32} (hlo : fle fZero p = true) (hhi : fle p fOne = true) :
    fIsFinite (triangleFold p) = true ∧ 0 ≤ f32Value (triangleFold p) ∧ f32Value (triangleFold p) ≤ 1 / 2 := by
  obtain ⟨hzero, hhalf, hone⟩ := f32Value_constants
  have hp : fIsFinite p = true :=
    fIsFinite_of_between (a := fZero) (b := fOne) (by decide) (by decide) (fle_iff.mp hlo).2 (fle_iff.mp hhi).2
  rw [fle_iff_f32Value (by decide) hp, hzero] at hlo
  rw [fle_iff_f32Value hp (by decide), hone] at hhi
  unfold triangleFold
  split
  case isTrue hle =>
    rw [fle_iff_f32Value hp (by decide), hhalf] at hle
    exact ⟨hp, hlo, hle⟩
  case isFalse hgt =>
    rw [fle_iff_f32Value hp (by decide), hhalf] at hgt
    have h := (fsub_isRounded (a := fOne) (by decide) hp).between (a := fZero) (b := fHalf) (by decide) (by decide)
      (by rw [hzero, hone]; linarith) (by rw [hhalf, hone]; linarith)
    rwa [hzero, hhalf] at h

/-- Each operation keeps its range: the fold in [0, 1/2], the product in [0, 2], the difference in [-1, 1]. -/
theorem triangleWave_range {p : F32} (hlo : fle fZero p = true) (hhi : fle p fOne = true) :
    fle fMinusOne (triangleWave p) = true ∧ fle (triangleWave p) fOne = true := by
  obtain ⟨hzero, _, hone⟩ := f32Value_constants
  obtain ⟨hx, hx0, hx1⟩ := triangleFold_range hlo hhi
  obtain ⟨hm, hm0, hm2⟩ := (fmul_isRounded (a := fFour) (by decide) hx).between (a := fZero) (b := 0x40000000#32) (by decide)
    (by decide) (by rw [hzero, f32Value_fFour]; linarith) (by rw [f32Value_two, f32Value_fFour]; linarith)
  rw [hzero] at hm0
  rw [f32Value_two] at hm2
  obtain ⟨hw, hw0, hw1⟩ := (fsub_isRounded (b := fOne) hm (by decide)).between (a := fMinusOne) (b := fOne) (by decide)
    (by decide) (by rw [f32Value_fMinusOne, hone]; linarith) (by rw [hone]; linarith)
  rw [triangleWave_eq, fle_iff_f32Value (by decide) hw, fle_iff_f32Value hw (by decide)]
  exact ⟨hw0, hw1⟩

theorem triangleWave_of_nan {p : F32} (h : fIsNaN p = true) : triangleWave p = canonicalNaN := by
  rw [triangleWave, fle_of_nan_left fHalf h, if_neg (by decide), (arithmetic_nan_operand (.inr h)).2.1]
  decide

/-- Settles O29: the range by `triangleWave_range`, the named points by evaluation. -/
theorem triangleWaveRange : Obligations.TriangleWaveRange :=
  ⟨fun _ => rfl, fun _ => triangleWave_range, by decide +kernel, by decide +kernel, by decide +kernel, by decide +kernel,
    by decide +kernel, by decide +kernel, by decide +kernel, fun _ => triangleWave_of_nan⟩

/-! ### The pulse (R102) -/

/-- A NaN width passes the clamp (R14), and no phase is below it. -/
theorem pulseWave_of_nan {p w : F32} (h : fIsNaN p = true ∨ fIsNaN w = true) : pulseWave p w = fOne := by
  have hlt : flt p (fclamp w fZero fOne) = false := by
    rcases h with hp | hw
    · exact flt_of_nan_left _ hp
    · rw [fclamp, flt_of_nan_left fZero hw, flt_of_nan_right fOne hw]
      exact flt_of_nan_right p hw
  rw [pulseWave, hlt, if_neg (by decide)]

/-- A width that the clamp keeps is the threshold itself. -/
theorem pulseWave_of_clamped {w : F32} (p : F32) (h : fclamp w fZero fOne = w) :
    pulseWave p w = if flt p w then fMinusOne else fOne := by
  rw [pulseWave, h]

theorem pulseWave_above {p w : F32} (hw : fclamp w fZero fOne = w) (h : fle w p = true) : pulseWave p w = fOne := by
  rw [pulseWave_of_clamped p hw, flt_eq_false_of_fle h, if_neg (by decide)]

theorem pulseWave_below {p w : F32} (hw : fclamp w fZero fOne = w) (h : flt p w = true) : pulseWave p w = fMinusOne := by
  rw [pulseWave_of_clamped p hw, if_pos h]

/-- Settles O30: the clamp keeps the widths +0.0 and 0.5, which are then the thresholds. -/
theorem pulseWaveValues : Obligations.PulseWaveValues :=
  fun _ _ => ⟨rfl, pulseWave_of_nan, pulseWave_above (w := fZero) (by decide), fun _ => pulseWave_below (by decide),
    fun h _ => pulseWave_above (by decide) h⟩

end Sys2Proof.Machine

/-! The sine (R101): O31. The enclosure of Machine/Sine.lean contains the real sine: the nested series are the Taylor polynomials,
whose terms alternate and fall, so an even number of them is below the sine or cosine and an odd number above. Where both
ends round to one value, that value is nearest to everything between them, since the numbers nearer to one of two values than
to the other form an interval. -/

namespace Sys2Proof.Machine

open Sys2Proof
open scoped Nat

/-! ### The nested series is an alternating sum -/

/-- The real number a numerator and denominator stand for. -/
noncomputable def ratio (r : Nat × Nat) : ℝ := r.1 / r.2

theorem ratio_eq_cast (r : Nat × Nat) : ratio r = (((r.1 : ℚ) / r.2 : ℚ) : ℝ) := by
  rw [ratio, Rat.cast_div, Rat.cast_natCast, Rat.cast_natCast]

/-- `1 - t/(c(c+1)) + t²/(c(c+1)(c+2)(c+3)) - …` with `n + 1` terms. -/
noncomputable def alternatingSum (t : ℝ) (n c : Nat) : ℝ :=
  ∑ i ∈ Finset.range (n + 1), (-1) ^ i * (t ^ i / c.ascFactorial (2 * i))

theorem ascFactorial_add_two (c k : Nat) : c.ascFactorial (k + 2) = c * (c + 1) * (c + 2).ascFactorial k := by
  rw [Nat.ascFactorial_succ, ← Nat.succ_ascFactorial, Nat.ascFactorial_succ, ← Nat.succ_ascFactorial, mul_assoc]

theorem alternatingSum_succ (t : ℝ) (n c : Nat) :
    alternatingSum t (n + 1) c = 1 - t / (c * (c + 1)) * alternatingSum t n (c + 2) := by
  have hterm (i : Nat) : (-1 : ℝ) ^ (i + 1) * (t ^ (i + 1) / c.ascFactorial (2 * (i + 1))) =
      -(t / (c * (c + 1))) * ((-1) ^ i * (t ^ i / (c + 2).ascFactorial (2 * i))) := by
    rw [mul_add, mul_one, ascFactorial_add_two, Nat.cast_mul, Nat.cast_mul, Nat.cast_add_one, pow_succ' t, mul_div_mul_comm,
      pow_succ]
    ring
  rw [alternatingSum, Finset.sum_range_succ', Finset.sum_congr rfl fun i _ => hterm i, ← Finset.mul_sum, ← alternatingSum]
  simp
  ring

/-- The series never truncates its subtraction: its numerator stays at most its denominator. -/
theorem nestedSeries_ratio {a2 b2 : Nat} (hb : 0 < b2) (hab : a2 ≤ b2) (n : Nat) {c : Nat} (hc : 0 < c) :
    (nestedSeries a2 b2 n c).1 ≤ (nestedSeries a2 b2 n c).2 ∧ 0 < (nestedSeries a2 b2 n c).2 ∧
      ratio (nestedSeries a2 b2 n c) = alternatingSum (a2 / b2) n c := by
  induction n generalizing c with
  | zero => simp [nestedSeries, ratio, alternatingSum]
  | succ n ih =>
    obtain ⟨hle, hpos, hratio⟩ := ih (c := c + 2) (by omega)
    have hstep : nestedSeries a2 b2 (n + 1) c = seriesStep a2 b2 (c * (c + 1)) (nestedSeries a2 b2 n (c + 2)) := rfl
    rw [alternatingSum_succ, ← hratio, hstep]
    generalize nestedSeries a2 b2 n (c + 2) = r at hle hpos
    unfold seriesStep ratio
    have hd : 0 < c * (c + 1) := by positivity
    have hsub : a2 * r.1 ≤ b2 * (c * (c + 1)) * r.2 :=
      Nat.mul_le_mul (hab.trans (Nat.le_mul_of_pos_right b2 hd)) hle
    refine ⟨Nat.sub_le _ _, by positivity, ?_⟩
    have hb' : (b2 : ℝ) ≠ 0 := by positivity
    have hc' : (c : ℝ) ≠ 0 := by positivity
    have hr' : (r.2 : ℝ) ≠ 0 := by positivity
    have hc1 : (c : ℝ) + 1 ≠ 0 := by positivity
    push_cast [Nat.cast_sub hsub]
    field_simp

/-! ### The alternating sum encloses the sine and the cosine -/

theorem antitone_pow_div_factorial {x : ℝ} (h0 : 0 ≤ x) (h1 : x ≤ 1) : Antitone fun k : Nat => x ^ k / (k ! : ℝ) := by
  intro j k hjk
  have hfact : (j ! : ℝ) ≤ k ! := by exact_mod_cast Nat.factorial_le hjk
  exact div_le_div₀ (by positivity) (pow_le_pow_of_le_one h0 h1 hjk) (by positivity) hfact

theorem mul_alternatingSum_two (x : ℝ) (n : Nat) :
    x * alternatingSum (x ^ 2) n 2 = ∑ i ∈ Finset.range (n + 1), (-1) ^ i * (x ^ (2 * i + 1) / (2 * i + 1)!) := by
  rw [alternatingSum, Finset.mul_sum]
  refine Finset.sum_congr rfl fun i _ => ?_
  have hfact : Nat.ascFactorial 2 (2 * i) = (2 * i + 1)! := by
    rw [add_comm, ← Nat.factorial_mul_ascFactorial, Nat.factorial_one, one_mul]
  rw [hfact, ← pow_mul, pow_succ]
  ring

theorem alternatingSum_one (x : ℝ) (n : Nat) :
    alternatingSum (x ^ 2) n 1 = ∑ i ∈ Finset.range (n + 1), (-1) ^ i * (x ^ (2 * i) / (2 * i)!) := by
  simp only [alternatingSum, Nat.one_ascFactorial, pow_mul]

theorem alternatingSum_encloses_sin {x : ℝ} (h0 : 0 ≤ x) (h1 : x ≤ 1) (k : Nat) :
    x * alternatingSum (x ^ 2) (2 * k + 1) 2 ≤ Real.sin x ∧ Real.sin x ≤ x * alternatingSum (x ^ 2) (2 * k) 2 := by
  have hsum := (Real.hasSum_sin x).tendsto_sum_nat
  simp only [mul_div_assoc] at hsum
  have hfall : Antitone fun i : Nat => x ^ (2 * i + 1) / ((2 * i + 1)! : ℝ) :=
    (antitone_pow_div_factorial h0 h1).comp_monotone fun i j hij => by omega
  rw [mul_alternatingSum_two, mul_alternatingSum_two]
  exact ⟨hfall.alternating_series_le_tendsto hsum (k + 1), hfall.tendsto_le_alternating_series hsum k⟩

theorem alternatingSum_encloses_cos {x : ℝ} (h0 : 0 ≤ x) (h1 : x ≤ 1) (k : Nat) :
    alternatingSum (x ^ 2) (2 * k + 1) 1 ≤ Real.cos x ∧ Real.cos x ≤ alternatingSum (x ^ 2) (2 * k) 1 := by
  have hsum := (Real.hasSum_cos x).tendsto_sum_nat
  simp only [mul_div_assoc] at hsum
  have hfall : Antitone fun i : Nat => x ^ (2 * i) / ((2 * i)! : ℝ) :=
    (antitone_pow_div_factorial h0 h1).comp_monotone fun i j hij => by omega
  rw [alternatingSum_one, alternatingSum_one]
  exact ⟨hfall.alternating_series_le_tendsto hsum (k + 1), hfall.tendsto_le_alternating_series hsum k⟩

/-! ### The two Taylor polynomials of the model -/

theorem angleDen_pos : 0 < angleDen := by decide

/-- The angle with numerator `a` over `angleDen`. -/
noncomputable def angleOf (a : Nat) : ℝ := a / angleDen

theorem angleOf_nonneg (a : Nat) : 0 ≤ angleOf a := by unfold angleOf; positivity

theorem angleOf_le_one {a : Nat} (ha : a ≤ angleDen) : angleOf a ≤ 1 :=
  div_le_one_of_le₀ (by exact_mod_cast ha) (Nat.cast_nonneg _)

theorem angleOf_sq (a : Nat) : ((a * a : Nat) : ℝ) / ((angleDen * angleDen : Nat) : ℝ) = angleOf a ^ 2 := by
  rw [angleOf, Nat.cast_mul, Nat.cast_mul, ← div_mul_div_comm, sq]

theorem sinSeries_ratio {a : Nat} (ha : a ≤ angleDen) (n : Nat) :
    0 < (sinSeries a n).2 ∧ ratio (sinSeries a n) = angleOf a * alternatingSum (angleOf a ^ 2) n 2 := by
  have hden := angleDen_pos
  obtain ⟨_, hpos, hratio⟩ :=
    nestedSeries_ratio (Nat.mul_pos hden hden) (Nat.mul_le_mul ha ha) n (c := 2) (by decide)
  refine ⟨Nat.mul_pos hden hpos, ?_⟩
  rw [← angleOf_sq, ← hratio, ratio, ratio, sinSeries, angleOf, Nat.cast_mul, Nat.cast_mul, div_mul_div_comm]

theorem cosSeries_ratio {a : Nat} (ha : a ≤ angleDen) (n : Nat) :
    0 < (cosSeries a n).2 ∧ ratio (cosSeries a n) = alternatingSum (angleOf a ^ 2) n 1 := by
  have hden := angleDen_pos
  obtain ⟨_, hpos, hratio⟩ :=
    nestedSeries_ratio (Nat.mul_pos hden hden) (Nat.mul_le_mul ha ha) n (c := 1) (by decide)
  exact ⟨hpos, by rw [← angleOf_sq, ← hratio, cosSeries]⟩

theorem sinSeries_le_sin {a : Nat} (ha : a ≤ angleDen) (k : Nat) :
    ratio (sinSeries a (2 * k + 1)) ≤ Real.sin (angleOf a) := by
  rw [(sinSeries_ratio ha _).2]
  exact (alternatingSum_encloses_sin (angleOf_nonneg a) (angleOf_le_one ha) k).1

theorem sin_le_sinSeries {a : Nat} (ha : a ≤ angleDen) (k : Nat) :
    Real.sin (angleOf a) ≤ ratio (sinSeries a (2 * k)) := by
  rw [(sinSeries_ratio ha _).2]
  exact (alternatingSum_encloses_sin (angleOf_nonneg a) (angleOf_le_one ha) k).2

theorem cosSeries_le_cos {a : Nat} (ha : a ≤ angleDen) (k : Nat) :
    ratio (cosSeries a (2 * k + 1)) ≤ Real.cos (angleOf a) := by
  rw [(cosSeries_ratio ha _).2]
  exact (alternatingSum_encloses_cos (angleOf_nonneg a) (angleOf_le_one ha) k).1

theorem cos_le_cosSeries {a : Nat} (ha : a ≤ angleDen) (k : Nat) :
    Real.cos (angleOf a) ≤ ratio (cosSeries a (2 * k)) := by
  rw [(cosSeries_ratio ha _).2]
  exact (alternatingSum_encloses_cos (angleOf_nonneg a) (angleOf_le_one ha) k).2

/-! ### The enclosure of the sine in a quarter turn -/

/-- The angle of `m` units of 2^-149 turn. -/
noncomputable def turnAngle (m : Nat) : ℝ := 2 * Real.pi * ((m : ℝ) / 2 ^ 149)

theorem turnAngle_nonneg (m : Nat) : 0 ≤ turnAngle m := by unfold turnAngle; positivity

theorem angleOf_two_mul (q p : Nat) : angleOf (2 * q * p) = 2 * (p / 10 ^ 20) * ((q : ℝ) / 2 ^ 149) := by
  rw [angleOf, angleDen, turn, piDen]
  push_cast
  ring

/-- The model's bounds of pi give bounds of the angle. -/
theorem turnAngle_bounds (q : Nat) :
    angleOf (2 * q * piLow) ≤ turnAngle q ∧ turnAngle q ≤ angleOf (2 * q * (piLow + 1)) := by
  have hlow : (piLow : ℝ) / 10 ^ 20 ≤ Real.pi := by
    have := Real.pi_gt_d20
    rw [piLow]
    norm_num at this ⊢
    linarith
  have hhigh : Real.pi ≤ ((piLow + 1 : Nat) : ℝ) / 10 ^ 20 := by
    have := Real.pi_lt_d20
    rw [piLow]
    norm_num at this ⊢
    linarith
  rw [angleOf_two_mul, angleOf_two_mul, turnAngle]
  exact ⟨by gcongr, by gcongr⟩

/-- Up to an eighth of a turn the bounds of the angle are at most 1. -/
theorem angle_le_angleDen {q : Nat} (hq : q ≤ eighthTurn) :
    2 * q * piLow ≤ angleDen ∧ 2 * q * (piLow + 1) ≤ angleDen := by
  unfold eighthTurn at hq
  unfold piLow angleDen turn piDen
  omega

theorem cos_turnAngle_complement {q : Nat} (hq : q ≤ quarterTurn) :
    Real.cos (turnAngle (quarterTurn - q)) = Real.sin (turnAngle q) := by
  rw [← Real.cos_pi_div_two_sub, turnAngle, turnAngle, Nat.cast_sub hq, quarterTurn]
  congr 1
  push_cast
  ring

theorem sinLow_le {q : Nat} (hq : q ≤ quarterTurn) : 0 < (sinLow q).2 ∧ ratio (sinLow q) ≤ Real.sin (turnAngle q) := by
  have hone := Real.one_le_pi_div_two
  unfold sinLow
  split
  case isTrue h8 =>
    obtain ⟨hfit, _⟩ := angle_le_angleDen h8
    obtain ⟨hlow, hhigh⟩ := turnAngle_bounds q
    have hangle := angleOf_le_one (angle_le_angleDen h8).2
    refine ⟨(sinSeries_ratio hfit _).1, (sinSeries_le_sin hfit 4).trans ?_⟩
    exact Real.sin_le_sin_of_le_of_le_pi_div_two (by linarith [angleOf_nonneg (2 * q * piLow)]) (by linarith) hlow
  case isFalse h8 =>
    have h8' : quarterTurn - q ≤ eighthTurn := by unfold quarterTurn eighthTurn at *; omega
    obtain ⟨_, hfit⟩ := angle_le_angleDen h8'
    obtain ⟨_, hhigh⟩ := turnAngle_bounds (quarterTurn - q)
    have hangle := angleOf_le_one hfit
    refine ⟨(cosSeries_ratio hfit _).1, (cosSeries_le_cos hfit 4).trans ?_⟩
    rw [← cos_turnAngle_complement hq]
    exact Real.cos_le_cos_of_nonneg_of_le_pi (turnAngle_nonneg _) (by linarith) hhigh

theorem le_sinHigh {q : Nat} (hq : q ≤ quarterTurn) : 0 < (sinHigh q).2 ∧ Real.sin (turnAngle q) ≤ ratio (sinHigh q) := by
  have hone := Real.one_le_pi_div_two
  unfold sinHigh
  split
  case isTrue h8 =>
    obtain ⟨_, hfit⟩ := angle_le_angleDen h8
    obtain ⟨_, hhigh⟩ := turnAngle_bounds q
    have hangle := angleOf_le_one hfit
    refine ⟨(sinSeries_ratio hfit _).1, le_trans ?_ (sin_le_sinSeries hfit 5)⟩
    exact Real.sin_le_sin_of_le_of_le_pi_div_two (by linarith [turnAngle_nonneg q]) (by linarith) hhigh
  case isFalse h8 =>
    have h8' : quarterTurn - q ≤ eighthTurn := by unfold quarterTurn eighthTurn at *; omega
    obtain ⟨hfit, hfit'⟩ := angle_le_angleDen h8'
    obtain ⟨hlow, hhigh⟩ := turnAngle_bounds (quarterTurn - q)
    have hangle := angleOf_le_one hfit'
    refine ⟨(cosSeries_ratio hfit _).1, le_trans ?_ (cos_le_cosSeries hfit 5)⟩
    rw [← cos_turnAngle_complement hq]
    exact Real.cos_le_cos_of_nonneg_of_le_pi (angleOf_nonneg _) (by linarith) hlow

/-! ### A value both ends round to is nearest to all between them -/

/-- The numbers at least as near to `a` as to `b` form an interval. -/
theorem abs_sub_le_of_between {a b x y z : ℝ} (hx : |a - x| ≤ |b - x|) (hz : |a - z| ≤ |b - z|) (hxy : x ≤ y) (hyz : y ≤ z) :
    |a - y| ≤ |b - y| := by
  rw [← sq_le_sq] at hx hz ⊢
  rcases le_total a b with hab | hab
  · nlinarith [mul_nonneg (sub_nonneg.mpr hab) (sub_nonneg.mpr hyz)]
  · nlinarith [mul_nonneg (sub_nonneg.mpr hab) (sub_nonneg.mpr hxy)]

theorem isNearestReal_of_between {v : F32} {lo hi : ℚ} {y : ℝ} (hlo : isNearestEven v lo) (hhi : isNearestEven v hi)
    (hly : (lo : ℝ) ≤ y) (hyh : y ≤ (hi : ℝ)) : isNearestReal v y := by
  refine ⟨hlo.1, fun c hc => ?_⟩
  have hx : |((f32Value v : ℚ) : ℝ) - lo| ≤ |((f32Value c : ℚ) : ℝ) - lo| := by exact_mod_cast (hlo.2 c hc).1
  have hz : |((f32Value v : ℚ) : ℝ) - hi| ≤ |((f32Value c : ℚ) : ℝ) - hi| := by exact_mod_cast (hhi.2 c hc).1
  exact abs_sub_le_of_between hx hz hly hyh

/-- A value is nearest to the number it stands for. -/
theorem isNearestReal_of_eq {v : F32} {y : ℝ} (hv : fIsFinite v = true) (h : ((f32Value v : ℚ) : ℝ) = y) :
    isNearestReal v y :=
  ⟨hv, fun c _ => by rw [h, sub_self, abs_zero]; exact abs_nonneg _⟩

theorem isRounded.isNearestEven_of_finite {v : F32} {r : ℚ} (h : isRounded v r) (hv : fIsFinite v = true) :
    isNearestEven v r := by
  rw [isRounded] at h
  split at h
  case isTrue => exact h
  case isFalse =>
    rw [h, fIsFinite, fMag_fInf] at hv
    exact absurd hv (by decide)

/-- `roundRatio` is one rounding of the number its argument stands for (R16). -/
theorem isRounded_roundRatio (neg : Bool) {r : Nat × Nat} (hr : 0 < r.2) :
    isRounded (fPack neg (roundRatio r)) (signFactor neg * ((r.1 : ℚ) / r.2)) := by
  have h := roundUnits_isRounded neg (r.1 * 2 ^ 149) hr
  rw [Nat.cast_mul, Nat.cast_pow, Nat.cast_ofNat, mul_div_right_comm, mul_div_cancel_right₀ _ (by positivity)] at h
  exact h

theorem isNearestReal_roundRatio (neg : Bool) {lo hi : Nat × Nat} {y : ℝ} (hlo : 0 < lo.2) (hhi : 0 < hi.2)
    (hround : roundRatio lo = roundRatio hi) (hly : ratio lo ≤ y) (hyh : y ≤ ratio hi) (hy1 : y ≤ 1) :
    isNearestReal (fPack neg (roundRatio lo)) (((signFactor neg : ℚ) : ℝ) * y) := by
  rw [ratio_eq_cast] at hly hyh
  have hle1 : (lo.1 : ℚ) / lo.2 ≤ 1 := by exact_mod_cast hly.trans hy1
  have habs : |signFactor neg * ((lo.1 : ℚ) / lo.2)| ≤ 1 := by
    rwa [abs_mul, abs_signFactor, one_mul, abs_of_nonneg (by positivity)]
  obtain ⟨hge, hle⟩ := abs_le.mp habs
  have hnearLo : isNearestEven (fPack neg (roundRatio lo)) (signFactor neg * ((lo.1 : ℚ) / lo.2)) := by
    obtain ⟨_, _, hone⟩ := f32Value_constants
    exact (isRounded_roundRatio neg hlo).isNearestEven_of_between (a := fMinusOne) (b := fOne) (by decide) (by decide)
      (by rwa [f32Value_fMinusOne]) (by rwa [hone])
  have hnearHi : isNearestEven (fPack neg (roundRatio lo)) (signFactor neg * ((hi.1 : ℚ) / hi.2)) :=
    (by rw [hround]; exact isRounded_roundRatio neg hhi : isRounded _ _).isNearestEven_of_finite hnearLo.1
  cases neg
  · exact isNearestReal_of_between hnearLo hnearHi (by simpa [signFactor] using hly) (by simpa [signFactor] using hyh)
  · exact isNearestReal_of_between hnearHi hnearLo (by simpa [signFactor] using hyh) (by simpa [signFactor] using hly)

/-! ### The symmetries of the sine -/

theorem foldTurn_le (m : Nat) : foldTurn m ≤ quarterTurn := by
  unfold foldTurn halfTurn quarterTurn
  split <;> omega

/-- The half turns of an argument: each changes the sign of the sine. -/
theorem turnAngle_halfTurns (m : Nat) : turnAngle m = turnAngle (m % halfTurn) + (m / halfTurn : Nat) * Real.pi := by
  have hdiv : (m : ℝ) = 2 ^ 148 * (m / halfTurn : Nat) + (m % halfTurn : Nat) := by
    exact_mod_cast (Nat.div_add_mod m halfTurn).symm
  rw [turnAngle, turnAngle, hdiv]
  ring

theorem signFactor_sineNegative (m : Nat) :
    ((signFactor (sineNegative m) : ℚ) : ℝ) = (-1) ^ (m / halfTurn) := by
  have hparity : sineNegative m = true ↔ m / halfTurn % 2 = 1 := by
    rw [sineNegative, decide_eq_true_iff, turn, halfTurn]
    omega
  rw [signFactor]
  split
  case isTrue hneg =>
    rw [(Nat.odd_iff.mpr (hparity.mp hneg)).neg_one_pow]
    norm_num
  case isFalse hpos =>
    rw [(Nat.not_odd_iff_even.mp (mt (hparity.mpr ∘ Nat.odd_iff.mp) hpos)).neg_one_pow]
    norm_num

theorem sin_turnAngle_foldTurn (m : Nat) : Real.sin (turnAngle (foldTurn m)) = Real.sin (turnAngle (m % halfTurn)) := by
  have hlt : m % halfTurn ≤ halfTurn := (Nat.mod_lt m (by decide)).le
  unfold foldTurn
  split
  case isTrue => rfl
  case isFalse =>
    rw [← Real.sin_pi_sub, turnAngle, turnAngle, Nat.cast_sub hlt, halfTurn]
    congr 1
    push_cast
    ring

theorem sin_turnAngle (m : Nat) :
    Real.sin (turnAngle m) = ((signFactor (sineNegative m) : ℚ) : ℝ) * Real.sin (turnAngle (foldTurn m)) := by
  rw [turnAngle_halfTurns, Real.sin_add_nat_mul_pi, sin_turnAngle_foldTurn, signFactor_sineNegative]

theorem sin_turnAngle_quarter : Real.sin (turnAngle quarterTurn) = 1 := by
  rw [← Real.sin_pi_div_two, turnAngle, quarterTurn]
  congr 1
  push_cast
  ring

/-! ### SIN2PI -/

theorem sinTurn_of_zero {m : Nat} (h : foldTurn m = 0) : sinTurn m = fZero := if_pos h

theorem sinTurn_of_quarter {m : Nat} (h : foldTurn m = quarterTurn) :
    sinTurn m = if sineNegative m then fMinusOne else fOne := by
  rw [sinTurn, h, if_neg (by decide), if_pos rfl]

theorem sinTurn_of_decided {m : Nat} (h0 : foldTurn m ≠ 0) (h4 : foldTurn m ≠ quarterTurn)
    (hdec : sineDecided (foldTurn m) = true) : sinTurn m = fPack (sineNegative m) (roundRatio (sinLow (foldTurn m))) := by
  rw [sinTurn, if_neg h0, if_neg h4, if_pos hdec]

/-- The correctly rounded sine, at the exact points and wherever the enclosure decides (R16, R101). -/
theorem sinTurn_isNearestReal {m : Nat}
    (h : foldTurn m = 0 ∨ foldTurn m = quarterTurn ∨ sineDecided (foldTurn m) = true) :
    isNearestReal (sinTurn m) (Real.sin (turnAngle m)) := by
  rw [sin_turnAngle]
  by_cases h0 : foldTurn m = 0
  · rw [sinTurn_of_zero h0, h0]
    exact isNearestReal_of_eq (by decide) (by simp [f32Value_constants, turnAngle])
  by_cases h4 : foldTurn m = quarterTurn
  · rw [sinTurn_of_quarter h4, h4, sin_turnAngle_quarter]
    cases sineNegative m
    · exact isNearestReal_of_eq (by decide) (by simp [f32Value_constants, signFactor])
    · exact isNearestReal_of_eq (by decide) (by simp [f32Value_fMinusOne, signFactor])
  have hdec : sineDecided (foldTurn m) = true := (h.resolve_left h0).resolve_left h4
  obtain ⟨hlo, hlow⟩ := sinLow_le (foldTurn_le m)
  obtain ⟨hhi, hhigh⟩ := le_sinHigh (foldTurn_le m)
  rw [sinTurn_of_decided h0 h4 hdec]
  exact isNearestReal_roundRatio _ hlo hhi (of_decide_eq_true hdec) hlow hhigh (Real.sin_le_one _)

/-- A phase and its number of turn units differ by whole turns. -/
theorem phaseTurn_eq (p : F32) : ∃ j : ℤ, (phaseTurn p : ℤ) = fSigned p + j * 2 ^ 149 := by
  unfold phaseTurn fSigned turn
  split
  · exact ⟨(fUnits p / 2 ^ 149 : Nat) + 1, by omega⟩
  · exact ⟨0, by omega⟩

theorem sin_turnAngle_phaseTurn (p : F32) :
    Real.sin (turnAngle (phaseTurn p)) = Real.sin (2 * Real.pi * ((f32Value p : ℚ) : ℝ)) := by
  obtain ⟨j, hj⟩ := phaseTurn_eq p
  have hj' : (phaseTurn p : ℝ) = fSigned p + j * 2 ^ 149 := by exact_mod_cast hj
  rw [← Real.sin_add_int_mul_two_pi (2 * Real.pi * _) j, turnAngle, hj', f32Value]
  congr 1
  push_cast
  ring

theorem sin2pi_of_zero {p : F32} (h : fMag p = 0) : sin2pi p = p := by
  have hfin := fIsFinite_of_zero h
  simp [sin2pi, fIsNaN_of_finite hfin, fIsInf_of_finite hfin, h]

theorem sin2pi_of_finite {p : F32} (hp : fIsFinite p = true) (h0 : fMag p ≠ 0) : sin2pi p = sinTurn (phaseTurn p) := by
  simp [sin2pi, fIsNaN_of_finite hp, fIsInf_of_finite hp, h0]

theorem sin2pi_of_not_finite {p : F32} (h : fIsFinite p = false) : sin2pi p = canonicalNaN := by
  rcases fIsNaN_or_eq_fInf h with hnan | hinf
  · simp [sin2pi, hnan]
  · rw [hinf]
    simp [sin2pi]

theorem sin2pi_isNearestReal {p : F32} (hp : fIsFinite p = true)
    (h : foldTurn (phaseTurn p) = 0 ∨ foldTurn (phaseTurn p) = quarterTurn ∨ sineDecided (foldTurn (phaseTurn p)) = true) :
    isNearestReal (sin2pi p) (Real.sin (2 * Real.pi * ((f32Value p : ℚ) : ℝ))) := by
  by_cases h0 : fMag p = 0
  · rw [sin2pi_of_zero h0]
    exact isNearestReal_of_eq hp (by simp [f32Value_eq_zero_iff.mpr h0])
  · rw [sin2pi_of_finite hp h0, ← sin_turnAngle_phaseTurn]
    exact sinTurn_isNearestReal h

theorem fSigned_of_quarters {p : F32} {z : ℤ} (h : f32Value p = (z : ℚ) / 4) : fSigned p = z * 2 ^ 147 := by
  rw [f32Value, div_eq_iff (by positivity)] at h
  have hq : (fSigned p : ℚ) = ((z * 2 ^ 147 : ℤ) : ℚ) := by
    rw [h]; push_cast; ring
  exact_mod_cast hq

/-- At a whole number `z` of quarter turns the folded argument is 0 or a quarter turn. -/
theorem phaseTurn_of_quarters {p : F32} {z : ℤ} (h : f32Value p = (z : ℚ) / 4) :
    (z % 2 = 0 → foldTurn (phaseTurn p) = 0) ∧
      (z % 2 = 1 → foldTurn (phaseTurn p) = quarterTurn ∧ sineNegative (phaseTurn p) = decide (z % 4 = 3)) := by
  obtain ⟨j, hj⟩ := phaseTurn_eq p
  rw [fSigned_of_quarters h] at hj
  unfold sineNegative foldTurn halfTurn quarterTurn turn
  rw [decide_eq_decide]
  refine ⟨fun hz => ?_, fun hz => ⟨?_, ?_⟩⟩
  · split <;> omega
  · split <;> omega
  · omega

theorem sin2pi_of_halves {p : F32} (hp : fIsFinite p = true) {k : ℤ} (hk : k ≠ 0) (h : f32Value p = (k : ℚ) / 2) :
    sin2pi p = fZero := by
  have h0 : fMag p ≠ 0 := fun h0 => hk (by simpa [f32Value_eq_zero_iff.mpr h0] using h.symm)
  obtain ⟨hfold, _⟩ := phaseTurn_of_quarters (z := 2 * k) (by rw [h]; push_cast; ring)
  rw [sin2pi_of_finite hp h0, sinTurn_of_zero (hfold (by omega))]

/-- At an odd number of quarter turns the sine is 1 or -1. -/
theorem sin2pi_of_odd_quarters {p : F32} (hp : fIsFinite p = true) {z : ℤ} (hz : z % 2 = 1) (h : f32Value p = (z : ℚ) / 4) :
    sin2pi p = if z % 4 = 3 then fMinusOne else fOne := by
  have h0 : fMag p ≠ 0 := fun h0 => by
    have hz0 : z = 0 := by simpa [f32Value_eq_zero_iff.mpr h0] using h.symm
    omega
  obtain ⟨hfold, hneg⟩ := (phaseTurn_of_quarters h).2 hz
  rw [sin2pi_of_finite hp h0, sinTurn_of_quarter hfold, hneg]
  simp

/-- Settles O31: the rounding by the enclosure (`sin2pi_isNearestReal`), the exact points by whole quarter turns. -/
theorem sineIsCorrectlyRounded : Obligations.SineIsCorrectlyRounded := by
  refine ⟨fun _ => sin2pi_isNearestReal, fun p k hp => ⟨fun hk h => sin2pi_of_halves hp hk h, fun h => ?_, fun h => ?_⟩,
    fun _ => sin2pi_of_zero, fun _ => sin2pi_of_not_finite⟩
  · rw [sin2pi_of_odd_quarters (z := 4 * k + 1) hp (by omega) (by rw [h]; push_cast; ring), if_neg (by omega)]
    rfl
  · rw [sin2pi_of_odd_quarters (z := 4 * k + 3) hp (by omega) (by rw [h]; push_cast; ring), if_pos (by omega)]
    rfl

end Sys2Proof.Machine

/-! The interpolation commands (R113 to R122): O33 to O35. With a window that fits, a command is the write of its value to RESULT and
completion; the value is a kernel over samples of the window, and the taps' indices are those of R116, R117 and R119 by arithmetic
modulo the length. -/

namespace Sys2Proof.Machine

open Sys2Proof

/-! ### The window (R113) -/

/-- `buf(i)` of R113, for an index already reduced by the length. -/
def State.windowSample (s : State) (i : Nat) : F32 := s.readWord (dlyAddr (s.dlyBase.toNat + i))

theorem State.tap_eq_windowSample (s : State) (n : Nat) : s.tap n = s.windowSample (n % s.dlyLen.toNat) := rfl

theorem interpolate_of_window_fits {s : State} (hlen : s.dlyLen.toNat ≠ 0)
    (hfit : s.dlyBase.toNat + s.dlyLen.toNat ≤ Config.dlySize) (v : F32) :
    interpolate s v = .next (s.setResult v).complete := by
  rw [interpolate_eq, if_neg (not_or.mpr ⟨hlen, Nat.not_lt.mpr hfit⟩), faultOrFinish, if_pos rfl, finish_eq]

/-! ### The taps of INTERP_HERMITE (R119) -/

/-- One back from a position shifted by the length: the index before, and from index 0 the last. -/
theorem add_sub_one_mod_self {len : Nat} (hlen : len ≠ 0) (n : Nat) :
    (n + len - 1) % len = if n % len = 0 then len - 1 else n % len - 1 := by
  have hp : n % len < len := Nat.mod_lt n (Nat.pos_of_ne_zero hlen)
  have hshift : (n + len - 1) % len = (n % len + (len - 1)) % len := by
    rw [Nat.add_sub_assoc (Nat.one_le_iff_ne_zero.mpr hlen), Nat.mod_add_mod]
  rw [hshift]
  split
  case isTrue h0 => rw [h0, Nat.zero_add, Nat.mod_eq_of_lt (by omega)]
  case isFalse h0 =>
    rw [show n % len + (len - 1) = n % len - 1 + len by omega, Nat.add_mod_right, Nat.mod_eq_of_lt (by omega)]

/-- A number of steps on from a position shifted by the length. -/
theorem add_self_add_mod (n len k : Nat) : (n + len + k) % len = (n % len + k) % len := by
  rw [Nat.add_right_comm, Nat.add_mod_right, Nat.mod_add_mod]

/-- The four taps of R119, by their place in the window. -/
theorem State.hermiteAt_add_dlyLen {s : State} (hlen : s.dlyLen.toNat ≠ 0) (n : Nat) :
    s.hermiteAt (n + s.dlyLen.toNat) =
      let p := n % s.dlyLen.toNat
      hermite4 (s.windowSample (if p = 0 then s.dlyLen.toNat - 1 else p - 1)) (s.windowSample p)
        (s.windowSample ((p + 1) % s.dlyLen.toNat)) (s.windowSample ((p + 2) % s.dlyLen.toNat)) s.arg1F32 := by
  simp only [State.hermiteAt, State.tap_eq_windowSample, add_sub_one_mod_self hlen, add_self_add_mod, Nat.add_mod_right]

/-! ### The commands (R116, R117, R119) -/

/-- Settles O33: the tap is the sample the statement names. -/
theorem interpNoneReadsTheTap : Obligations.InterpNoneReadsTheTap :=
  fun s hlen hfit => interpolate_of_window_fits hlen hfit (s.tap s.arg0Nat)

/-- Settles O34: the two taps are the samples the statement names, and the kernel is the one of R117. -/
theorem interpLinearBlendsTwoTaps : Obligations.InterpLinearBlendsTwoTaps :=
  fun s hlen hfit =>
    interpolate_of_window_fits hlen hfit (linear2 (s.tap s.arg0Nat) (s.tap (s.arg0Nat + 1)) s.arg1F32)

/-- Settles O35: the four taps by their place in the window (`State.hermiteAt_add_dlyLen`), and the kernel is the one of R118. -/
theorem interpHermiteWrapsFourTaps : Obligations.InterpHermiteWrapsFourTaps := by
  intro s hlen hfit
  have hexec : exec .interpHermite s = .next (s.setResult (s.hermiteAt (s.arg0Nat + s.dlyLen.toNat))).complete :=
    interpolate_of_window_fits hlen hfit _
  rw [hexec, State.hermiteAt_add_dlyLen hlen]
  rfl

end Sys2Proof.Machine

/-! The FFT commands (R123 to R134): O36, O37 and O39 to O42. A byte that one iteration of a loop writes is what that iteration
leaves there, run in a state where nothing but other iterations' bytes has changed (`loop_iteration`). Taken over the blocks of
a stage and the pairs of a block this gives the butterflies, over FFT_BITREV the swaps, and over FFT_TWGEN the table. -/

namespace Sys2Proof.Machine

open Sys2Proof

/-! ### Bytes, words and complex elements (R58, R59) -/

theorem wordOfBytes_inj {b0 b1 b2 b3 c0 c1 c2 c3 : Byte} (h : wordOfBytes b0 b1 b2 b3 = wordOfBytes c0 c1 c2 c3) :
    b0 = c0 ∧ b1 = c1 ∧ b2 = c2 ∧ b3 = c3 := by
  have hnat := congrArg BitVec.toNat h
  simp only [wordOfBytes, toNat_append_eq] at hnat
  simp only [← BitVec.toNat_inj]
  omega

/-- Two states that read the same word there read the same bytes there. -/
theorem State.readByte_of_readWord {s t : State} {a x : Nat} (h : t.readWord a = s.readWord a) (hlo : a ≤ x)
    (hhi : x < a + 4) : t.readByte x = s.readByte x := by
  obtain ⟨h0, h1, h2, h3⟩ := wordOfBytes_inj h
  obtain rfl | rfl | rfl | rfl : x = a ∨ x = a + 1 ∨ x = a + 2 ∨ x = a + 3 := by omega
  · exact h0
  · exact h1
  · exact h2
  · exact h3

/-- The bytes of the complex element at an offset. -/
def complexBytes (a x : Nat) : Prop := a ≤ x ∧ x < a + 8

theorem State.readByte_of_readComplex {s t : State} {a x : Nat} (h : t.readComplex a = s.readComplex a)
    (hx : complexBytes a x) : t.readByte x = s.readByte x := by
  obtain ⟨hlo, hhi⟩ := hx
  by_cases hre : x < a + 4
  · exact State.readByte_of_readWord (congrArg Complex32.re h) hlo hre
  · exact State.readByte_of_readWord (congrArg Complex32.im h) (by omega) (by omega)

/-- Two states that read the same bytes at a complex element read the same element. -/
theorem State.readComplex_congr {s t : State} {a : Nat} (h : ∀ x, complexBytes a x → t.readByte x = s.readByte x) :
    t.readComplex a = s.readComplex a := by
  unfold State.readComplex
  rw [State.readWord_congr fun x hlo hhi => h x ⟨hlo, by omega⟩,
    State.readWord_congr fun x hlo hhi => h x ⟨by omega, by omega⟩]

theorem WritesWithin.complexBytes (s : State) (a : Nat) (z : Complex32) :
    WritesWithin (complexBytes a) s (s.writeComplex a z) :=
  .writeComplex s z fun _ hlo hhi => ⟨hlo, hhi⟩

theorem cbufAddr_inj {i j x : Nat} (hi : complexBytes (cbufAddr i) x) (hj : complexBytes (cbufAddr j) x) : i = j := by
  unfold complexBytes cbufAddr at hi hj
  omega

theorem twAddr_inj {i j x : Nat} (hi : complexBytes (twAddr i) x) (hj : complexBytes (twAddr j) x) : i = j := by
  unfold complexBytes twAddr at hi hj
  omega

/-! ### One iteration of a loop -/

/-- Where no other iteration writes, the loop leaves what iteration `i` leaves, run in a state that is still the one before. -/
theorem loop_iteration {P : Nat → Nat → Prop} {n i : Nat} {body : State → Nat → State} (s : State)
    (hb : ∀ j u, j < n → WritesWithin (P j) u (body u j)) (hi : i < n) :
    ∃ u : State, ∀ x, (∀ j, j < n → j ≠ i → ¬ P j x) →
      u.readByte x = s.readByte x ∧ (loop n body s).readByte x = (body u i).readByte x := by
  induction n with
  | zero => omega
  | succ n ih =>
    rw [loop_succ]
    by_cases hin : i = n
    · subst hin
      have hbefore : WritesWithin (fun x => ∃ j, j < i ∧ P j x) s (loop i body s) :=
        .loop s fun j u hj => (hb j u (by omega)).mono fun x hx => ⟨j, hj, hx⟩
      exact ⟨loop i body s, fun x hx =>
        ⟨hbefore.frame x fun ⟨j, hj, hP⟩ => hx j (by omega) (by omega) hP, rfl⟩⟩
    · obtain ⟨u, hu⟩ := ih (fun j u hj => hb j u (by omega)) (by omega)
      refine ⟨u, fun x hx => ?_⟩
      obtain ⟨hsame, hiter⟩ := hu x fun j hj => hx j (by omega)
      exact ⟨hsame, ((hb n _ (by omega)).frame x (hx n (by omega) (Ne.symm hin))).trans hiter⟩

/-! ### Completion of a command without a fault -/

theorem exec_of_no_fault {i : Instr} {s : State} (h : dueFault i s = .none) :
    exec i s = .next (commandWork i s).complete := by
  rw [exec_eq, faultOrFinish, if_pos h, finish_eq]

theorem exec_fftTwgen {n : Nat} (hn : n ≤ 12) (s : State) (inv : Bool) :
    exec (.fftTwgen n inv) s = .next (s.twgen n inv).complete :=
  exec_of_no_fault (if_neg (Nat.not_lt.mpr hn))

theorem exec_fftRadix2 {n : Nat} (hn : n ≤ 12) (s : State) : exec (.fftRadix2 n) s = .next (s.radix2 n).complete :=
  exec_of_no_fault (if_neg (Nat.not_lt.mpr hn))

theorem exec_fftBitrev {n : Nat} (hn : n ≤ 12) (s : State) : exec (.fftBitrev n) s = .next (s.bitrev n).complete :=
  exec_of_no_fault (if_neg (Nat.not_lt.mpr hn))

/-- Work in memory alone, completed, changes no register but DONE and BUSY. -/
theorem OnlyMemory.complete_eq {s t : State} (h : OnlyMemory s t) :
    t.complete = { s with mem := t.complete.mem, done := true, seq := none } := by
  obtain ⟨m, rfl⟩ := h
  rfl

/-- Work in `CBUF[0 .. n-1]` leaves the memory outside alone. -/
theorem WritesWithin.sameMemoryOutside_cbuf {n : Nat} {s t : State} (h : WritesWithin (cbufBytes n) s t) :
    sameMemoryOutside s t 0x10000 (0x10000 + 8 * n) :=
  fun a ha => h.frame a fun ⟨hlo, hhi⟩ => by unfold cbufAddr at hlo hhi; omega

/-! ### FFT_TWGEN (R125, R126) -/

theorem State.twgen_readComplex (s : State) {order k : Nat} (inv : Bool) (hk : k < 2 ^ order / 2) :
    (s.twgen order inv).readComplex (twAddr k) = twiddle inv k order := by
  obtain ⟨u, hu⟩ := loop_iteration s
    (fun j u _ => WritesWithin.complexBytes u (twAddr j) (twiddle inv j order)) hk
  rw [← State.readComplex_writeComplex_same u (twAddr k) (twiddle inv k order)]
  exact State.readComplex_congr fun x hx => (hu x fun j _ hne hj => hne (twAddr_inj hj hx)).2

/-- Settles O36: the table by `State.twgen_readComplex`, the frame by `WritesWithin.twgen`. -/
theorem twgenWritesTheTable : Obligations.TwgenWritesTheTable := by
  intro s n inv hn
  refine ⟨_, exec_fftTwgen hn s inv, (OnlyMemory.twgen s n inv).complete_eq, fun k hk => ?_, fun a ha => ?_⟩
  · have hentry := s.twgen_readComplex inv hk
    exact ⟨congrArg Complex32.re hentry, congrArg Complex32.im hentry⟩
  · exact (WritesWithin.twgen s n inv).frame a fun ⟨hlo, hhi⟩ => by unfold twAddr at hlo hhi; omega

theorem twiddle_inverse (k order : Nat) :
    twiddle true k order = ⟨(twiddle false k order).re, fneg (twiddle false k order).im⟩ := rfl

/-- Settles O37: both tables hold their twiddles, and the inverse ones are the conjugates. -/
theorem inverseTableIsTheConjugate : Obligations.InverseTableIsTheConjugate := by
  intro s t u n hn ht hu k hk
  rw [exec_fftTwgen hn] at ht hu
  cases ht
  cases hu
  have hforward := s.twgen_readComplex false hk
  have hinverse := s.twgen_readComplex true hk
  rw [twiddle_inverse, ← hforward] at hinverse
  exact ⟨congrArg Complex32.re hinverse, congrArg Complex32.im hinverse⟩

/-! ### One butterfly (R127, R20) -/

/-- The bytes of two elements of CBUF. -/
def cbufPair (i j x : Nat) : Prop := complexBytes (cbufAddr i) x ∨ complexBytes (cbufAddr j) x

theorem WritesWithin.cbufPair (s : State) (i j : Nat) (y z : Complex32) :
    WritesWithin (cbufPair i j) s ((s.writeComplex (cbufAddr i) y).writeComplex (cbufAddr j) z) :=
  ((WritesWithin.complexBytes s _ y).mono fun _ => .inl).trans ((WritesWithin.complexBytes _ _ z).mono fun _ => .inr)

theorem cbufAddr_le_of_cbufPair {i j x : Nat} (h : cbufPair i j x) : cbufAddr 0 ≤ x := by
  unfold cbufPair complexBytes cbufAddr at *
  omega

theorem State.readComplex_cbufAddr_apart (s : State) {i j : Nat} (z : Complex32) (h : i ≠ j) :
    (s.writeComplex (cbufAddr j) z).readComplex (cbufAddr i) = s.readComplex (cbufAddr i) :=
  s.readComplex_writeComplex_apart z (by unfold cbufAddr; omega)

theorem State.butterfly_readComplex (s : State) (tw : Nat) {i1 i2 : Nat} (h : i1 ≠ i2) :
    (s.butterfly tw i1 i2).readComplex (cbufAddr i1) = cadd (s.readComplex (cbufAddr i1)) (s.twiddled tw i2) ∧
      (s.butterfly tw i1 i2).readComplex (cbufAddr i2) = csub (s.readComplex (cbufAddr i1)) (s.twiddled tw i2) := by
  unfold State.butterfly
  exact ⟨State.readComplex_writeComplex_same _ _ _,
    (State.readComplex_cbufAddr_apart _ _ h.symm).trans (State.readComplex_writeComplex_same _ _ _)⟩

/-! ### A block and a stage (R127) -/

/-- The bytes of the `j`-th run of `size` elements of CBUF. -/
def cbufRun (size j x : Nat) : Prop := ∃ e, e / size = j ∧ complexBytes (cbufAddr e) x

theorem cbufRun_unique {size i j x : Nat} (hi : cbufRun size i x) (hj : cbufRun size j x) : i = j := by
  obtain ⟨e, rfl, he⟩ := hi
  obtain ⟨f, rfl, hf⟩ := hj
  rw [cbufAddr_inj he hf]

theorem cbufAddr_le_of_cbufRun {size j x : Nat} (h : cbufRun size j x) : cbufAddr 0 ≤ x := by
  obtain ⟨_, _, he⟩ := h
  unfold complexBytes cbufAddr at *
  omega

theorem run_div {size p : Nat} (j : Nat) (hp : p < size) : (j * size + p) / size = j := by
  rw [Nat.mul_comm, Nat.mul_add_div (by omega), Nat.div_eq_of_lt hp, Nat.add_zero]

/-- The bytes of the pair at place `pair` of the block from `k` whose halves have `half` elements. -/
def butterflyBytes (half k pair : Nat) : Nat → Prop := cbufPair (k + pair + half) (k + pair)

/-- The pairs of a block are disjoint. -/
theorem butterflyBytes_unique {half k p q x : Nat} (hp : p < half) (hq : q < half) (hpx : butterflyBytes half k p x)
    (hqx : butterflyBytes half k q x) : p = q := by
  unfold butterflyBytes cbufPair complexBytes cbufAddr at *
  omega

/-- The pairs of block `j` lie in the block's run. -/
theorem cbufRun_of_butterflyBytes {stage j pair x : Nat} (hpair : pair < 2 ^ stage)
    (hx : butterflyBytes (2 ^ stage) (j * 2 ^ (stage + 1)) pair x) : cbufRun (2 ^ (stage + 1)) j x := by
  have hsize : 2 ^ (stage + 1) = 2 ^ stage * 2 := Nat.pow_succ ..
  rcases hx with hx | hx
  · rw [Nat.add_assoc] at hx
    exact ⟨_, run_div j (by omega), hx⟩
  · exact ⟨_, run_div j (by omega), hx⟩

theorem WritesWithin.butterflyBytes (s : State) (tw half k pair : Nat) :
    WritesWithin (butterflyBytes half k pair) s (s.butterfly tw (k + pair) (k + pair + half)) :=
  .cbufPair s _ _ _ _

theorem WritesWithin.fftBlock_run (s : State) (order stage j : Nat) :
    WritesWithin (cbufRun (2 ^ (stage + 1)) j) s (s.fftBlock order stage (j * 2 ^ (stage + 1))) :=
  .loop s fun _ u hpair => (WritesWithin.butterflyBytes u _ _ _ _).mono fun _ => cbufRun_of_butterflyBytes hpair

/-- In a pair, a block leaves what the pair's butterfly leaves, run where the pair and all below CBUF are still as before. -/
theorem State.fftBlock_iteration (s : State) (order k : Nat) {stage pair : Nat} (hpair : pair < 2 ^ stage) :
    ∃ u : State, ∀ x, x < cbufAddr 0 ∨ butterflyBytes (2 ^ stage) k pair x →
      u.readByte x = s.readByte x ∧
        (s.fftBlock order stage k).readByte x =
          (u.butterfly (pair * 2 ^ (order - stage - 1)) (k + pair) (k + pair + 2 ^ stage)).readByte x := by
  obtain ⟨u, hu⟩ := loop_iteration s
    (fun p u _ => WritesWithin.butterflyBytes u (p * 2 ^ (order - stage - 1)) (2 ^ stage) k p) hpair
  refine ⟨u, fun x hx => hu x fun p hp hne hpx => ?_⟩
  rcases hx with hlow | hin
  · exact absurd (cbufAddr_le_of_cbufPair hpx) (Nat.not_le.mpr hlow)
  · exact hne (butterflyBytes_unique hp hpair hpx hin)

/-- In a block's run, a stage leaves what the block leaves, run where the run and all below CBUF are still as before. -/
theorem State.fftStage_iteration (s : State) {order stage j : Nat} (hstage : stage < order)
    (hj : j < 2 ^ (order - stage - 1)) :
    ∃ u : State, ∀ x, x < cbufAddr 0 ∨ cbufRun (2 ^ (stage + 1)) j x →
      u.readByte x = s.readByte x ∧
        (s.fftStage order stage).readByte x = (u.fftBlock order stage (j * 2 ^ (stage + 1))).readByte x := by
  have hblocks : j < 2 ^ order / 2 ^ (stage + 1) := by
    rw [Nat.pow_div hstage two_pos]
    exact hj
  obtain ⟨u, hu⟩ := loop_iteration s (fun i u _ => WritesWithin.fftBlock_run u order stage i) hblocks
  refine ⟨u, fun x hx => hu x fun i _ hne hix => ?_⟩
  rcases hx with hlow | hin
  · exact absurd (cbufAddr_le_of_cbufRun hix) (Nat.not_le.mpr hlow)
  · exact hne (cbufRun_unique hix hin)

/-- The twiddle factor a pair uses lies in TW, below CBUF (R60, R128). -/
theorem twAddr_lt_cbuf {order stage pair x : Nat} (horder : order ≤ 12) (hstage : stage < order) (hpair : pair < 2 ^ stage)
    (hx : complexBytes (twAddr (pair * 2 ^ (order - stage - 1))) x) : x < cbufAddr 0 := by
  have hindex : pair * 2 ^ (order - stage - 1) < 2 ^ 11 :=
    calc pair * 2 ^ (order - stage - 1) < 2 ^ stage * 2 ^ (order - stage - 1) :=
          Nat.mul_lt_mul_of_pos_right hpair (Nat.two_pow_pos _)
      _ = 2 ^ (stage + (order - stage - 1)) := (Nat.pow_add ..).symm
      _ ≤ 2 ^ 11 := Nat.pow_le_pow_right two_pos (by omega)
  unfold complexBytes twAddr at hx
  unfold cbufAddr
  omega

/-- Every butterfly of a stage is computed from the values before the stage. -/
theorem State.fftStage_readComplex (s : State) {order stage j pair : Nat} (horder : order ≤ 12) (hstage : stage < order)
    (hj : j < 2 ^ (order - stage - 1)) (hpair : pair < 2 ^ stage) :
    let i1 := j * 2 ^ (stage + 1) + pair
    let i2 := j * 2 ^ (stage + 1) + pair + 2 ^ stage
    let m := s.twiddled (pair * 2 ^ (order - stage - 1)) i2
    (s.fftStage order stage).readComplex (cbufAddr i1) = cadd (s.readComplex (cbufAddr i1)) m ∧
      (s.fftStage order stage).readComplex (cbufAddr i2) = csub (s.readComplex (cbufAddr i1)) m := by
  intro i1 i2 m
  obtain ⟨v, hv⟩ := s.fftStage_iteration hstage hj
  obtain ⟨u, hu⟩ := v.fftBlock_iteration order (j * 2 ^ (stage + 1)) hpair
  have hrun {x : Nat} (hx : butterflyBytes (2 ^ stage) (j * 2 ^ (stage + 1)) pair x) :=
    hv x (.inr (cbufRun_of_butterflyBytes hpair hx))
  have htw : u.readComplex (twAddr (pair * 2 ^ (order - stage - 1))) =
      s.readComplex (twAddr (pair * 2 ^ (order - stage - 1))) :=
    State.readComplex_congr fun x hx =>
      have hlow := twAddr_lt_cbuf horder hstage hpair hx
      (hu x (.inl hlow)).1.trans (hv x (.inl hlow)).1
  have h1 : u.readComplex (cbufAddr i1) = s.readComplex (cbufAddr i1) :=
    State.readComplex_congr fun x hx => (hu x (.inr (.inr hx))).1.trans (hrun (.inr hx)).1
  have h2 : u.readComplex (cbufAddr i2) = s.readComplex (cbufAddr i2) :=
    State.readComplex_congr fun x hx => (hu x (.inr (.inl hx))).1.trans (hrun (.inl hx)).1
  have hm : u.twiddled (pair * 2 ^ (order - stage - 1)) i2 = m := congrArg₂ cmul htw h2
  have hne : i1 ≠ i2 := (Nat.lt_add_of_pos_right (Nat.two_pow_pos stage)).ne
  obtain ⟨hfirst, hsecond⟩ := u.butterfly_readComplex (pair * 2 ^ (order - stage - 1)) hne
  rw [← hm, ← h1, ← hfirst, ← hsecond]
  exact ⟨State.readComplex_congr fun x hx => (hrun (.inr hx)).2.trans (hu x (.inr (.inr hx))).2,
    State.readComplex_congr fun x hx => (hrun (.inl hx)).2.trans (hu x (.inr (.inl hx))).2⟩

/-- Settles O40: the butterflies by `State.fftStage_readComplex`, the frame by `WritesWithin.fftStage`. -/
theorem stageComputesEveryButterfly : Obligations.StageComputesEveryButterfly := by
  refine ⟨fun s order stage j pair horder hstage hj hpair => ?_, fun s order stage _ _ => ?_, fun s order horder => ?_⟩
  · intro t tw i1 i2
    have hi2 : i2 = cbufAddr (j * 2 ^ (stage + 1) + pair + 2 ^ stage) := by
      rw [cbufAddr, Nat.mul_add, ← Nat.add_assoc]
    obtain ⟨hfirst, hsecond⟩ := s.fftStage_readComplex horder hstage hj hpair
    rw [hi2]
    exact ⟨congrArg Complex32.re hfirst, congrArg Complex32.im hfirst, congrArg Complex32.re hsecond,
      congrArg Complex32.im hsecond⟩
  · obtain ⟨m, hm⟩ := OnlyMemory.fftStage s order stage
    exact ⟨by rw [hm], (WritesWithin.fftStage s order stage).sameMemoryOutside_cbuf⟩
  · exact exec_fftRadix2 horder s

/-- FFT_RADIX2 of two elements is one butterfly. -/
theorem State.radix2_one_readComplex (s : State) :
    (s.radix2 1).readComplex (cbufAddr 0) = cadd (s.readComplex (cbufAddr 0)) (s.twiddled 0 1) ∧
      (s.radix2 1).readComplex (cbufAddr 1) = csub (s.readComplex (cbufAddr 0)) (s.twiddled 0 1) := by
  have hone : s.radix2 1 = s.fftStage 1 0 := loop_succ 0 _ s
  rw [hone]
  exact s.fftStage_readComplex (order := 1) (stage := 0) (j := 0) (pair := 0) (by decide) Nat.one_pos Nat.one_pos
    Nat.one_pos

/-- Settles O39: no stage for N = 1, and for N = 2 one stage of one butterfly. -/
theorem radixTwoTransformsInPlace : Obligations.RadixTwoTransformsInPlace := by
  intro s n hn
  refine ⟨_, exec_fftRadix2 hn s, (OnlyMemory.radix2 s n).complete_eq,
    (WritesWithin.radix2 s n).sameMemoryOutside_cbuf, fun h0 => ?_, fun h1 => ?_⟩
  · rw [h0]
    rfl
  · subst h1
    obtain ⟨hfirst, hsecond⟩ := s.radix2_one_readComplex
    generalize s.radix2 1 = t at hfirst hsecond ⊢
    exact ⟨congrArg Complex32.re hfirst, congrArg Complex32.im hfirst, congrArg Complex32.re hsecond,
      congrArg Complex32.im hsecond⟩

/-! ### The bit reversal (R129) -/

theorem testBit_revBits {n b : Nat} (i : Nat) (hb : b < n) : (revBits n i).testBit b = i.testBit (n - 1 - b) := by
  induction n generalizing i b with
  | zero => omega
  | succ n ih =>
    rw [revBits, Nat.mul_comm, Nat.testBit_two_pow_mul_add _ (revBits_lt n (i / 2))]
    split
    case isTrue hlow =>
      rw [ih _ hlow, Nat.testBit_div_two]
      congr 1
      omega
    case isFalse htop =>
      obtain rfl : b = n := by omega
      simp

/-- The reversed index is the one index whose bits are those of `i` in reverse order. -/
theorem eq_revBits {n i j : Nat} (hj : j < 2 ^ n) (h : ∀ b, b < n → j.testBit b = i.testBit (n - 1 - b)) :
    j = revBits n i := by
  refine Nat.eq_of_testBit_eq fun b => ?_
  by_cases hb : b < n
  · rw [h b hb, testBit_revBits i hb]
  · have hpow : 2 ^ n ≤ 2 ^ b := Nat.pow_le_pow_right two_pos (Nat.not_lt.mp hb)
    rw [Nat.testBit_lt_two_pow (hj.trans_le hpow), Nat.testBit_lt_two_pow ((revBits_lt n i).trans_le hpow)]

theorem revBits_revBits {n i : Nat} (hi : i < 2 ^ n) : revBits n (revBits n i) = i := by
  refine (eq_revBits hi fun b hb => ?_).symm
  rw [testBit_revBits i (by omega)]
  congr 1
  omega

/-! ### FFT_BITREV (R129) -/

/-- What iteration `i` of FFT_BITREV writes: the two elements it swaps, if it swaps. -/
def bitrevBytes (order i x : Nat) : Prop := i < revBits order i ∧ cbufPair i (revBits order i) x

theorem WritesWithin.bitrevBytes (s : State) (order i : Nat) :
    WritesWithin (bitrevBytes order i) s (if i < revBits order i then s.swapCbuf i (revBits order i) else s) := by
  split
  case isTrue hlt => exact (WritesWithin.cbufPair s _ _ _ _).mono fun _ hx => ⟨hlt, hx⟩
  case isFalse => exact .refl _ s

/-- An element is swapped by the iteration of the smaller of its index and its reversed index alone. -/
theorem min_eq_of_bitrevBytes {order i j x : Nat} (hi : i < 2 ^ order) (hj : j < 2 ^ order) (h : bitrevBytes order j x)
    (hx : complexBytes (cbufAddr i) x) : i ≠ revBits order i ∧ j = min i (revBits order i) := by
  obtain ⟨hlt, hjx | hjx⟩ := h
  · obtain rfl := cbufAddr_inj hjx hx
    omega
  · obtain rfl := cbufAddr_inj hjx hx
    rw [revBits_revBits hj]
    omega

theorem State.swapCbuf_readComplex (s : State) {i j : Nat} (h : i ≠ j) :
    (s.swapCbuf i j).readComplex (cbufAddr i) = s.readComplex (cbufAddr j) ∧
      (s.swapCbuf i j).readComplex (cbufAddr j) = s.readComplex (cbufAddr i) := by
  unfold State.swapCbuf
  exact ⟨(State.readComplex_cbufAddr_apart _ _ h).trans (State.readComplex_writeComplex_same _ _ _),
    State.readComplex_writeComplex_same _ _ _⟩

theorem State.bitrev_swaps (s : State) {order i : Nat} (hi : i < 2 ^ order) (hlt : i < revBits order i) :
    (s.bitrev order).readComplex (cbufAddr i) = s.readComplex (cbufAddr (revBits order i)) ∧
      (s.bitrev order).readComplex (cbufAddr (revBits order i)) = s.readComplex (cbufAddr i) := by
  obtain ⟨u, hu⟩ := loop_iteration s (fun j u _ => WritesWithin.bitrevBytes u order j) hi
  rw [if_pos hlt] at hu
  have hfirst {x : Nat} (hx : complexBytes (cbufAddr i) x) := hu x fun j hj hne hjx => by
    have := min_eq_of_bitrevBytes hi hj hjx hx
    omega
  have hsecond {x : Nat} (hx : complexBytes (cbufAddr (revBits order i)) x) := hu x fun j hj hne hjx => by
    have := min_eq_of_bitrevBytes (revBits_lt order i) hj hjx hx
    rw [revBits_revBits hi] at this
    omega
  obtain ⟨hswap1, hswap2⟩ := u.swapCbuf_readComplex hlt.ne
  rw [State.readComplex_congr fun x hx => (hfirst hx).1] at hswap2
  rw [State.readComplex_congr fun x hx => (hsecond hx).1] at hswap1
  rw [← hswap1, ← hswap2]
  exact ⟨State.readComplex_congr fun x hx => (hfirst hx).2, State.readComplex_congr fun x hx => (hsecond hx).2⟩

/-- FFT_BITREV moves the element at the reversed index to each index. -/
theorem State.bitrev_readComplex (s : State) {order i : Nat} (hi : i < 2 ^ order) :
    (s.bitrev order).readComplex (cbufAddr i) = s.readComplex (cbufAddr (revBits order i)) := by
  rcases lt_trichotomy i (revBits order i) with hlt | heq | hgt
  · exact (s.bitrev_swaps hi hlt).1
  · rw [← heq]
    have hwrites : WritesWithin (fun x => ∃ j, j < 2 ^ order ∧ bitrevBytes order j x) s (s.bitrev order) :=
      .loop s fun j u hj => (WritesWithin.bitrevBytes u order j).mono fun _ hx => ⟨j, hj, hx⟩
    exact State.readComplex_congr fun x hx => hwrites.frame x fun ⟨j, hj, hjx⟩ =>
      (min_eq_of_bitrevBytes hi hj hjx hx).1 heq
  · have hswap := (s.bitrev_swaps (revBits_lt order i) (by rwa [revBits_revBits hi])).2
    rwa [revBits_revBits hi] at hswap

/-- Settles O41: the index with the bits reversed is `revBits`, and `State.bitrev_readComplex`. -/
theorem bitrevPermutesTheBuffer : Obligations.BitrevPermutesTheBuffer := by
  intro s n hn
  refine ⟨_, exec_fftBitrev hn s, (OnlyMemory.bitrev s n).complete_eq, (WritesWithin.bitrev s n).sameMemoryOutside_cbuf,
    fun i j hi hj hbits => ?_⟩
  obtain rfl := eq_revBits hj hbits
  have hmove := s.bitrev_readComplex hi
  exact ⟨congrArg Complex32.re hmove, congrArg Complex32.im hmove⟩

/-- Settles O42: in CBUF by the involution `revBits_revBits`, outside it by the frame. -/
theorem bitrevTwiceRestores : Obligations.BitrevTwiceRestores := by
  intro s t u n hn ht hu a
  rw [exec_fftBitrev hn] at ht
  cases ht
  rw [exec_fftBitrev hn] at hu
  cases hu
  by_cases ha : cbufBytes (2 ^ n) a
  · obtain ⟨i, hi, hia⟩ : ∃ i, i < 2 ^ n ∧ complexBytes (cbufAddr i) a := by
      unfold cbufBytes complexBytes cbufAddr at *
      exact ⟨(a - 0x10000) / 8, by omega, by omega⟩
    refine State.readByte_of_readComplex (s := s) ?_ hia
    have hrev := revBits_lt n i
    have htwice := (s.bitrev n).complete.bitrev_readComplex hi
    have honce := s.bitrev_readComplex hrev
    rw [revBits_revBits hi] at honce
    exact htwice.trans honce
  · exact ((WritesWithin.bitrev (s.bitrev n).complete n).frame a ha).trans ((WritesWithin.bitrev s n).frame a ha)

end Sys2Proof.Machine

/-! The twiddle values (R124): O38. Every one up to N = 4096 is a sine at a whole number of 1/4096 turns. Whether the enclosure of
Machine/Sine.lean decides there is a question about each of these arguments by itself, how far its sine lies from a rounding
boundary, and is settled by evaluating the enclosure at each of them. -/

namespace Sys2Proof.Machine

open Sys2Proof

/-! ### The enclosure at whole numbers of 1/4096 turns -/

theorem sineDecided_to_eighth : ∀ j < 513, j ≠ 0 → sineDecided (j * 2 ^ 137) = true := by decide +kernel

theorem sineDecided_beyond_eighth : ∀ i < 511, sineDecided ((513 + i) * 2 ^ 137) = true := by decide +kernel

theorem sineDecided_of_lt_quarter {j : Nat} (h0 : j ≠ 0) (h4 : j < 1024) : sineDecided (j * 2 ^ 137) = true := by
  by_cases h8 : j < 513
  · exact sineDecided_to_eighth j h8 h0
  · have h := sineDecided_beyond_eighth (j - 513) (by omega)
    rwa [Nat.add_sub_cancel' (Nat.not_lt.mp h8)] at h

theorem foldTurn_grid (j : Nat) : ∃ i ≤ 1024, foldTurn (j * 2 ^ 137) = i * 2 ^ 137 := by
  unfold foldTurn halfTurn quarterTurn
  split
  case isTrue => exact ⟨j % 2048, by omega, by omega⟩
  case isFalse => exact ⟨2048 - j % 2048, by omega, by omega⟩

theorem sinTurn_grid_isNearestReal (j : Nat) : isNearestReal (sinTurn (j * 2 ^ 137)) (Real.sin (turnAngle (j * 2 ^ 137))) := by
  apply sinTurn_isNearestReal
  obtain ⟨i, hi, hfold⟩ := foldTurn_grid j
  rw [hfold]
  rcases Nat.eq_zero_or_pos i with h0 | hpos
  · exact .inl (by rw [h0, Nat.zero_mul])
  rcases hi.eq_or_lt with h4 | hlt
  · exact .inr (.inl (by rw [h4]; rfl))
  · exact .inr (.inr (sineDecided_of_lt_quarter hpos.ne' hlt))

/-! ### The twiddle arguments -/

theorem twiddleTurn_grid {n : Nat} (hn : n ≤ 12) (k : Nat) : twiddleTurn k n = k * 2 ^ (12 - n) * 2 ^ 137 := by
  rw [twiddleTurn, Nat.mul_assoc, ← Nat.pow_add]
  congr 2
  omega

theorem turnAngle_twiddleTurn {n : Nat} (hn : n ≤ 12) (k : Nat) :
    turnAngle (twiddleTurn k n) = 2 * Real.pi * (k : ℝ) / (2 : ℝ) ^ n := by
  have hpow : (2 : ℝ) ^ 149 = 2 ^ (149 - n) * 2 ^ n := by
    rw [← pow_add, Nat.sub_add_cancel (by omega)]
  rw [turnAngle, twiddleTurn, hpow]
  push_cast
  field_simp

theorem twiddleForward_re (k order : Nat) :
    (twiddleForward k order).re = sinTurn (twiddleTurn k order + quarterTurn) := by rw [twiddleForward]

theorem twiddleForward_im (k order : Nat) : (twiddleForward k order).im = fneg (sinTurn (twiddleTurn k order)) := by
  rw [twiddleForward]

theorem sin_turnAngle_add_quarterTurn (m : Nat) : Real.sin (turnAngle (m + quarterTurn)) = Real.cos (turnAngle m) := by
  rw [← Real.sin_add_pi_div_two, turnAngle, turnAngle, quarterTurn]
  congr 1
  push_cast
  ring

theorem isNearestReal.fneg {v : F32} {r : ℝ} (h : isNearestReal v r) : isNearestReal (fneg v) (-r) := by
  obtain ⟨hfin, hnear⟩ := h
  refine ⟨by rwa [fIsFinite_fneg], fun c hc => ?_⟩
  have hflip := hnear (Machine.fneg c) (by rwa [fIsFinite_fneg])
  rw [f32Value_fneg, Rat.cast_neg] at hflip ⊢
  rw [← neg_add', abs_neg] at hflip
  rwa [neg_sub_neg, abs_sub_comm, sub_neg_eq_add]

/-- The zero cosine, at a quarter turn. -/
theorem foldTurn_twiddleTurn_quarter {n k : Nat} (hn : n ≤ 12) (h4 : 4 * k = 2 ^ n) :
    foldTurn (twiddleTurn k n + quarterTurn) = 0 := by
  have hindex : 4 * (k * 2 ^ (12 - n)) = 2 ^ 12 := by
    rw [← Nat.mul_assoc, h4, ← Nat.pow_add, Nat.add_sub_cancel' hn]
  have hquarter : twiddleTurn k n = quarterTurn := by
    rw [twiddleTurn_grid hn, quarterTurn]
    omega
  rw [hquarter]
  decide

/-- Settles O38: each value is a sine at a whole number of 1/4096 turns (`sinTurn_grid_isNearestReal`). -/
theorem twiddlesAreCorrectlyRounded : Obligations.TwiddlesAreCorrectlyRounded := by
  intro n k hn _
  have hgrid := twiddleTurn_grid hn k
  rw [← turnAngle_twiddleTurn hn k, ← sin_turnAngle_add_quarterTurn, twiddleForward_re, twiddleForward_im]
  refine ⟨?_, ?_, fun h0 => ?_, fun h4 => ?_⟩
  · have hcosine := sinTurn_grid_isNearestReal (k * 2 ^ (12 - n) + 1024)
    have hquarter : quarterTurn = 1024 * 2 ^ 137 := by decide
    rwa [Nat.add_mul, ← hgrid, ← hquarter] at hcosine
  · have hsine := (sinTurn_grid_isNearestReal (k * 2 ^ (12 - n))).fneg
    rwa [← hgrid] at hsine
  · rw [h0, twiddleTurn, Nat.zero_mul]
    decide
  · rw [sinTurn_of_zero (foldTurn_twiddleTurn_quarter hn h4)]
    rfl

end Sys2Proof.Machine

/-! The channel strip and its selectors (R135 to R152, R164): O46 and O48. The pipeline of the model is the steps of R145 composed, so
what is left of O46 is which shaper state is the selected one and the drive's end points (R141); for O48 a selector's value after `n`
advances is a sum modulo K. -/

namespace Sys2Proof.Machine

open Sys2Proof

/-! ### The selected algorithm (R142) -/

theorem getElem?_eq_shaperAt {c : Strip} {k : Nat} (hk : k < c.sh.length) (sr : F32) :
    c.sh[k]? = some (shaperAt c k sr) := by
  rw [shaperAt, List.getD_eq_getElem _ _ hk, List.getElem?_eq_getElem hk]

/-! ### The drive (R141) -/

theorem Config.driveMax_cases : Config.driveMax = 0x40800000#32 ∨ Config.driveMax = 0x41000000#32 := by
  unfold Config.driveMax
  cases Config.driveMaxIsEight with
  | false => exact .inl rfl
  | true => exact .inr rfl

theorem driveGain_fZero : driveGain fZero = Config.driveMin := by
  unfold driveGain
  rcases Config.driveMax_cases with h | h
  · rw [h]; decide
  · rw [h]; decide

theorem driveGain_fOne : driveGain fOne = Config.driveMax := by
  unfold driveGain
  rcases Config.driveMax_cases with h | h
  · rw [h]; decide
  · rw [h]; decide

/-- Settles O46: with the selected algorithm's state in the strip (`getElem?_eq_shaperAt`) the model's pipeline is the one the
statement composes; the drive's end points are `driveGain_fZero` and `driveGain_fOne`. -/
theorem channelPipelineOrder : Obligations.ChannelPipelineOrder :=
  ⟨fun _ k sr c _ hk => ⟨shaperAt c k sr, getElem?_eq_shaperAt hk sr, rfl, rfl, rfl⟩, rfl, Config.driveMax_cases,
    driveGain_fZero, driveGain_fOne⟩

/-! ### The selectors (R152, R164) -/

theorem nextSelector_toNat (sel : BitVec 8) : (nextSelector sel).toNat = (sel.toNat + 1) % Config.numDist := by
  obtain ⟨hpos, hmax⟩ := Config.numDist_bounds
  have hlt : (sel.toNat + 1) % Config.numDist < Config.numDist := Nat.mod_lt _ hpos
  rw [nextSelector, BitVec.toNat_ofNat, Nat.mod_eq_of_lt (by omega)]

theorem nextSelector_iterate_toNat {sel : BitVec 8} (hsel : sel.toNat < Config.numDist) (n : Nat) :
    (nextSelector^[n] sel).toNat = (sel.toNat + n) % Config.numDist := by
  induction n with
  | zero => exact (Nat.mod_eq_of_lt hsel).symm
  | succ n ih => rw [Function.iterate_succ_apply', nextSelector_toNat, ih, Nat.mod_add_mod, Nat.add_assoc]

theorem nextSelector_iterate_numDist {sel : BitVec 8} (hsel : sel.toNat < Config.numDist) :
    nextSelector^[Config.numDist] sel = sel := by
  apply BitVec.eq_of_toNat_eq
  rw [nextSelector_iterate_toNat hsel, Nat.add_mod_right, Nat.mod_eq_of_lt hsel]

/-- Settles O48: the command advances each selector as `nextSelector_toNat` says and then completes; K advances are
`nextSelector_iterate_numDist`. -/
theorem nextDistAdvancesBoth : Obligations.NextDistAdvancesBoth :=
  ⟨fun s => ⟨_, exec_of_no_fault (i := .modNextDist) (s := s) rfl, rfl, nextSelector_toNat _, nextSelector_toNat _⟩,
    fun _ hsel => nextSelector_iterate_numDist hsel⟩

end Sys2Proof.Machine

/-! The module commands (R153 to R163): O43, O44, O45 and O47. The sample loop interleaves the two channels over one memory, but it
reads IN and writes OUT only, so each channel sees the input words the block began with; an induction on the samples then makes the
loop the two channels run by themselves (`blockLoop_strip`, `blockLoop_readOut`). -/

namespace Sys2Proof.Machine

open Sys2Proof

/-! ### A command that faults -/

theorem exec_of_fault {i : Instr} {s : State} {c : Cause} (h : dueFault i s = c) (hc : c ≠ .none) :
    exec i s = .next (s.raiseFault c) := by
  rw [exec_eq, faultOrFinish, h, if_neg hc, trap_eq]

theorem State.prepared_eq_false {s : State} (h : s.collab = none) : s.prepared = false := by
  rw [State.prepared, h]; rfl

theorem State.prepared_eq_true {s : State} (h : s.collab ≠ none) : s.prepared = true :=
  Option.isSome_iff_ne_none.mpr h

/-! ### MOD_PREPARE (R154, R155) -/

/-- The checks of MOD_PREPARE on an unprepared module: the block size alone (R176). -/
theorem dueFault_modPrepare {s : State} (h : s.collab = none) :
    dueFault .modPrepare s =
      if s.operands.arg1.toNat = 0 ∨ Config.blockMax < s.operands.arg1.toNat then .badBlockSize else .none := by
  simp [dueFault, State.prepared_eq_false h]

/-- An integer of at most 24 bits is a binary32 value, so its conversion does not round (R9). -/
theorem fOfNat_exact {n : Nat} (hn : n ≤ 2 ^ 24) : fIsFinite (fOfNat n) = true ∧ f32Value (fOfNat n) = n := by
  obtain ⟨m, hm⟩ := exists_magUnits_eq hn 149
  have hfinite : m < 0x7F800000 := by
    rw [← magUnits_strictMono.lt_iff_lt, hm, magUnits_infinity]
    omega
  obtain ⟨hfin, hval⟩ := f32Value_roundUnits_integer false hfinite hm
  exact ⟨hfin, hval.trans (by simp [signFactor])⟩

/-- Settles O43: each case is decided by the table's cause (`dueFault_modPrepare`), and the conversion is `fOfNat_exact`. -/
theorem modPrepareOnce : Obligations.ModPrepareOnce := by
  refine ⟨fun s => ⟨fun hc h0 hmax => ?_, fun hc => ?_, fun hc hbs => ?_⟩, fun n hn => ?_⟩
  · have hdue : dueFault .modPrepare s = .none := by rw [dueFault_modPrepare hc, if_neg (by omega)]
    exact exec_of_no_fault hdue
  · exact exec_of_fault (if_pos (State.prepared_eq_true hc)) (by decide)
  · have hdue : dueFault .modPrepare s = .badBlockSize := by rw [dueFault_modPrepare hc, if_pos hbs]
    exact exec_of_fault hdue (by decide)
  · obtain ⟨hfin, hval⟩ := fOfNat_exact hn
    exact ⟨hfin, hval, fSign_roundUnits _ _ _⟩

/-! ### MOD_PROCESS: its end state and its frame (R156 to R158) -/

theorem exec_modProcess {s : State} {c : Collaborators} (hc : s.collab = some c) :
    exec .modProcess s = .next (s.closeBlock c).complete := by
  have hwork : commandWork .modProcess s = s.closeBlock c := by rw [commandWork, State.processBlock, hc]
  rw [← hwork]
  exact exec_of_no_fault (if_pos (by rw [State.prepared, hc]; rfl))

/-- The state a MOD_PROCESS on a prepared module answers is the block's end, completed. -/
theorem eq_closeBlock_of_exec {s t : State} {c : Collaborators} (hc : s.collab = some c)
    (h : exec .modProcess s = .next t) : t = (s.closeBlock c).complete := by
  rw [exec_modProcess hc] at h
  injection h with h
  exact h.symm

@[simp] theorem State.closeBlock_prm (s : State) (c : Collaborators) : (s.closeBlock c).prm = s.snapshot c := by
  obtain ⟨m, hm⟩ := s.closeBlock_eq c
  rw [hm]

@[simp] theorem State.closeBlock_mod (s : State) (c : Collaborators) :
    (s.closeBlock c).mod = blockRegs s.mod (s.runBlock c).env := by
  obtain ⟨m, hm⟩ := s.closeBlock_eq c
  rw [hm]

theorem State.closeBlock_complete_eq (s : State) (c : Collaborators) :
    (s.closeBlock c).complete =
      { s with
        prm := (s.closeBlock c).prm
        mod := { s.mod with envOut := (s.closeBlock c).mod.envOut, gateOut := (s.closeBlock c).mod.gateOut }
        collab := (s.closeBlock c).collab
        mem := (s.closeBlock c).mem
        done := true
        seq := none } := by
  obtain ⟨m, hm⟩ := s.closeBlock_eq c
  rw [hm]
  rfl

theorem not_outBytes {n a : Nat} (h0 : a < 0x03000 ∨ 0x03000 + 4 * n ≤ a) (h1 : a < 0x04000 ∨ 0x04000 + 4 * n ≤ a) :
    ¬ outBytes n a := by
  rintro ⟨c, hlo, hhi⟩
  cases c with
  | left => have hin : 0x03000 ≤ a ∧ a < 0x03000 + 4 * n := ⟨hlo, hhi⟩; omega
  | right => have hin : 0x04000 ≤ a ∧ a < 0x04000 + 4 * n := ⟨hlo, hhi⟩; omega

theorem fclamp_of_nan {v : F32} (lo hi : F32) (h : fIsNaN v = true) : fclamp v lo hi = v := by
  simp [fclamp, flt_of_nan_left lo h, flt_of_nan_right hi h]

/-- Settles O44: the registers by `State.closeBlock_complete_eq`, the bytes by `WritesWithin.closeBlock`, the snapshot by
`State.closeBlock_prm`. -/
theorem modProcessFrame : Obligations.ModProcessFrame := by
  refine ⟨fun s c hc => ⟨_, exec_modProcess hc, s.closeBlock_complete_eq c, fun a h0 h1 => ?_, s.closeBlock_prm c⟩,
    fun s hc => ?_, fun v lo hi => ⟨rfl, fclamp_of_nan lo hi⟩⟩
  · exact (WritesWithin.closeBlock s c).frame a (not_outBytes h0 h1)
  · have hdue : dueFault .modProcess s = .notPrepared := by rw [dueFault, State.prepared_eq_false hc]; rfl
    exact exec_of_fault hdue (by decide)

/-! ### One channel of a block, by itself (R145, R156, R160) -/

/-- The strip of a channel. -/
def Block.strip (b : Block) : Channel → Strip
  | .left => b.strip0
  | .right => b.strip1

/-- The selector of a channel (R44). -/
def ModuleRegs.selector (m : ModuleRegs) : Channel → Nat
  | .left => m.sel0.toNat
  | .right => m.sel1.toNat

/-- `IN[c][i]`. -/
def State.input (s : State) (c : Channel) (i : Nat) : F32 := s.readWord (inAddr c i)

theorem outAddr_left (i : Nat) : outAddr .left i = 0x03000 + 4 * i := by simp [outAddr, Channel.index]
theorem outAddr_right (i : Nat) : outAddr .right i = 0x04000 + 4 * i := by simp [outAddr, Channel.index]

theorem State.input_left (s : State) : s.input .left = fun i => s.readWord (0x01000 + 4 * i) :=
  funext fun i => by simp [State.input, inAddr, Channel.index]

theorem State.input_right (s : State) : s.input .right = fun i => s.readWord (0x02000 + 4 * i) :=
  funext fun i => by simp [State.input, inAddr, Channel.index]

/-- A channel run by itself for `n` samples from a block's state, on the input words that state holds. -/
def Block.channelRun (p : Params) (b : Block) (c : Channel) (n : Nat) : Strip :=
  stripAfter p (b.st.mod.selector c) b.st.mod.sampleRate (b.strip c) (b.st.input c) n

theorem Channel.index_le_one (c : Channel) : c.index ≤ 1 := by
  cases c <;> decide

theorem Channel.index_inj : ∀ {c d : Channel}, c.index = d.index → c = d
  | .left, .left, _ => rfl
  | .right, .right, _ => rfl

/-- Each OUT memory holds 1024 slots, so two different slots do not overlap (R60). -/
theorem outAddr_apart {c d : Channel} {i j : Nat} (hi : i < 1024) (hj : j < 1024) (h : c ≠ d ∨ i ≠ j) :
    outAddr c i + 4 ≤ outAddr d j ∨ outAddr d j + 4 ≤ outAddr c i := by
  have hslot : c.index ≠ d.index ∨ i ≠ j := h.imp (mt Channel.index_inj) id
  unfold outAddr
  omega

theorem inAddr_below_outAddr (c d : Channel) {i : Nat} (j : Nat) (hi : i < 1024) : inAddr c i + 4 ≤ outAddr d j := by
  have hc := c.index_le_one
  unfold inAddr outAddr
  omega

/-- An iteration reads channel 1's input after channel 0's output is written, which lies elsewhere. -/
theorem blockSample_input (b : Block) {i : Nat} (v : Word) (hi : i < 1024) :
    (b.st.writeWord (outAddr .left i) v).readWord (inAddr .right i) = b.st.input .right i :=
  State.readWord_writeWord_apart _ _ (.inl (inAddr_below_outAddr _ _ i hi))

theorem blockSample_strip (p : Params) (b : Block) (c : Channel) {i : Nat} (hi : i < 1024) :
    (blockSample p b i).strip c =
      channelNext p (b.st.mod.selector c) b.st.mod.sampleRate (b.strip c) (b.st.input c i) := by
  cases c with
  | left => rfl
  | right => simp only [blockSample, Block.strip, blockSample_input b _ hi, State.writeWord_mod, ModuleRegs.selector]

theorem blockSample_env (p : Params) (b : Block) {i : Nat} (hi : i < 1024) :
    (blockSample p b i).env =
      some (channelEnvelope (b.strip .left) (b.st.input .left i), channelEnvelope (b.strip .right) (b.st.input .right i)) := by
  simp only [blockSample, blockSample_input b _ hi]
  rfl

theorem blockSample_readOut (p : Params) (b : Block) (c : Channel) {i : Nat} (hi : i < 1024) :
    (blockSample p b i).st.readWord (outAddr c i) =
      channelSample p (b.st.mod.selector c) b.st.mod.sampleRate (b.strip c) (b.st.input c i) := by
  cases c with
  | left =>
    simp only [blockSample]
    rw [State.readWord_writeWord_apart _ _ (outAddr_apart hi hi (.inl (by decide))), State.readWord_writeWord_same]
    rfl
  | right =>
    simp only [blockSample, State.readWord_writeWord_same, blockSample_input b _ hi, State.writeWord_mod]
    rfl

/-- An iteration leaves the samples at every other index alone. -/
theorem blockSample_readOut_other (p : Params) (b : Block) (c : Channel) {i j : Nat} (hi : i < 1024) (hj : j < 1024)
    (h : j ≠ i) : (blockSample p b i).st.readWord (outAddr c j) = b.st.readWord (outAddr c j) := by
  simp only [blockSample]
  rw [State.readWord_writeWord_apart _ _ (outAddr_apart hj hi (.inr h)),
    State.readWord_writeWord_apart _ _ (outAddr_apart hj hi (.inr h))]

/-! ### The sample loop is the two channels' runs (R160, R161) -/

theorem blockLoop_succ (p : Params) (n : Nat) (b : Block) :
    blockLoop p (n + 1) b = blockSample p (blockLoop p n b) n := loop_succ n (blockSample p) b

theorem blockLoop_mod (p : Params) (n : Nat) (b : Block) : (blockLoop p n b).st.mod = b.st.mod := by
  obtain ⟨m, hm⟩ := OnlyMemory.blockLoop p n b
  rw [hm]

/-- The loop writes OUT and nothing else, so the input is what it was before the block. -/
theorem blockLoop_input (p : Params) (n : Nat) (b : Block) (c : Channel) {i : Nat} (hi : i < 1024) :
    (blockLoop p n b).st.input c i = b.st.input c i := by
  refine State.readWord_congr fun x _ hx => (WritesWithin.blockLoop p n b).frame x ?_
  rintro ⟨d, hlo, _⟩
  have hbelow := inAddr_below_outAddr c d 0 hi
  omega

theorem blockLoop_strip (p : Params) (b : Block) (c : Channel) {n : Nat} (hn : n ≤ 1024) :
    (blockLoop p n b).strip c = b.channelRun p c n := by
  induction n with
  | zero => rfl
  | succ n ih =>
    rw [blockLoop_succ, blockSample_strip p _ c hn, blockLoop_mod, blockLoop_input p n b c hn, ih (by omega)]
    rfl

theorem blockLoop_env (p : Params) (b : Block) {n : Nat} (hn : n < 1024) :
    (blockLoop p (n + 1) b).env =
      some (channelEnvelope (b.channelRun p .left n) (b.st.input .left n),
        channelEnvelope (b.channelRun p .right n) (b.st.input .right n)) := by
  rw [blockLoop_succ, blockSample_env p _ hn, blockLoop_strip p b .left hn.le, blockLoop_strip p b .right hn.le,
    blockLoop_input p n b .left hn, blockLoop_input p n b .right hn]

/-- Sample `i` is written in iteration `i` and kept by the later ones. -/
theorem blockLoop_readOut (p : Params) (b : Block) (c : Channel) {n i : Nat} (hn : n ≤ 1024) (hi : i < n) :
    (blockLoop p n b).st.readWord (outAddr c i) =
      channelSample p (b.st.mod.selector c) b.st.mod.sampleRate (b.channelRun p c i) (b.st.input c i) := by
  induction n with
  | zero => omega
  | succ n ih =>
    rw [blockLoop_succ]
    rcases Nat.lt_succ_iff_lt_or_eq.mp hi with hlt | rfl
    · rw [blockSample_readOut_other p _ c hn (by omega) hlt.ne, ih (by omega) hlt]
    · rw [blockSample_readOut p _ c hn, blockLoop_mod, blockLoop_input p i b c hn, blockLoop_strip p b c (by omega)]

/-! ### A whole block (R156, R158, R159, R161) -/

/-- The envelope of a channel's last sample, the channel run by itself. -/
def State.lastEnvelope (s : State) (c : Collaborators) (d : Channel) : F32 :=
  channelEnvelope ((s.openBlock c).channelRun (s.snapshot c) d (s.mod.blockSize.toNat - 1))
    (s.input d (s.mod.blockSize.toNat - 1))

theorem State.runBlock_env {s : State} (c : Collaborators) (h1 : 1 ≤ s.mod.blockSize.toNat)
    (hmax : s.mod.blockSize.toNat ≤ 1024) :
    (s.runBlock c).env = some (s.lastEnvelope c .left, s.lastEnvelope c .right) := by
  have henv := blockLoop_env (s.snapshot c) (s.openBlock c) (n := s.mod.blockSize.toNat - 1) (by omega)
  rw [Nat.sub_add_cancel h1] at henv
  exact henv

theorem State.closeBlock_envOut {s : State} (c : Collaborators) (h1 : 1 ≤ s.mod.blockSize.toNat)
    (hmax : s.mod.blockSize.toNat ≤ 1024) :
    (s.closeBlock c).mod.envOut =
      combineEnvelopes Config.envCombine (s.lastEnvelope c .left) (s.lastEnvelope c .right) := by
  rw [State.closeBlock_mod, s.runBlock_env c h1 hmax]
  rfl

/-- The collaborator states after a block: one step of each smoother, and the two channels' runs. -/
theorem State.closeBlock_collab {s : State} (c : Collaborators) (hmax : s.mod.blockSize.toNat ≤ 1024) :
    (s.closeBlock c).collab = some
      { smooth := smoothNext c.smooth (captureControls s.ctl)
        strip0 := (s.openBlock c).channelRun (s.snapshot c) .left s.mod.blockSize.toNat
        strip1 := (s.openBlock c).channelRun (s.snapshot c) .right s.mod.blockSize.toNat } := by
  rw [← blockLoop_strip _ _ .left hmax, ← blockLoop_strip _ _ .right hmax]
  rfl

theorem State.closeBlock_readWord (s : State) (c : Collaborators) (a : Nat) :
    (s.closeBlock c).readWord a = (s.runBlock c).st.readWord a := rfl

theorem State.closeBlock_readOut {s : State} (c : Collaborators) (d : Channel) {i : Nat}
    (hmax : s.mod.blockSize.toNat ≤ 1024) (hi : i < s.mod.blockSize.toNat) :
    (s.closeBlock c).readWord (outAddr d i) =
      channelSample (s.snapshot c) (s.mod.selector d) s.mod.sampleRate
        ((s.openBlock c).channelRun (s.snapshot c) d i) (s.input d i) := by
  rw [State.closeBlock_readWord, State.runBlock, blockLoop_readOut _ _ d hmax hi]
  rfl

/-- Opening a block writes the snapshot registers and the strips' parameters, so a channel runs on the input and the module
registers of the state before it (R158, R159). -/
theorem State.openBlock_channelRun (s : State) (c : Collaborators) (d : Channel) (n : Nat) :
    (s.openBlock c).channelRun (s.snapshot c) d n =
      stripAfter (s.snapshot c) (s.mod.selector d) s.mod.sampleRate ((s.openBlock c).strip d) (s.input d) n := rfl

/-- Settles O45: the outputs by `State.closeBlock_readOut`, ENV_OUT by `State.closeBlock_envOut`, the end states by
`State.closeBlock_collab`. -/
theorem blockIsTwoIndependentChannels : Obligations.BlockIsTwoIndependentChannels := by
  intro s t c hc h1 hmax h
  obtain rfl := eq_closeBlock_of_exec hc h
  obtain ⟨_, hblock⟩ := Config.blockMax_bounds
  have hbs : s.mod.blockSize.toNat ≤ 1024 := hmax.trans hblock
  have hout (d : Channel) {i : Nat} (hi : i < s.mod.blockSize.toNat) := s.closeBlock_readOut c d hbs hi
  have henv := s.closeBlock_envOut c h1 hbs
  have hcollab := s.closeBlock_collab c hbs
  simp only [State.lastEnvelope, State.openBlock_channelRun, State.input_left, State.input_right] at henv hcollab
  simp only [State.complete_prm, State.closeBlock_prm, State.complete_mod, State.complete_collab, State.complete_readWord,
    henv]
  refine ⟨fun i hi => ⟨?_, ?_⟩, fun hleft => ?_, fun hright => ?_, fun hlarger => ?_, hcollab⟩
  · rw [← outAddr_left, hout .left hi, State.openBlock_channelRun, State.input_left]
    rfl
  · rw [← outAddr_right, hout .right hi, State.openBlock_channelRun, State.input_right]
    rfl
  · rw [hleft]; rfl
  · rw [hright]; rfl
  · rw [hlarger]; rfl

/-! ### GATE_OUT (R162, R163) -/

theorem commandWork_gateOut {i : Instr} (s : State) (h : i ≠ .modProcess) :
    (commandWork i s).mod.gateOut = s.mod.gateOut := by
  have honly {t : State} (ht : OnlyMemory s t) : t.mod.gateOut = s.mod.gateOut := by
    obtain ⟨m, rfl⟩ := ht
    rfl
  cases i with
  | modProcess => exact absurd rfl h
  | fftTwgen log2n inv => exact honly (.twgen s log2n inv)
  | fftRadix2 log2n => exact honly (.radix2 s log2n)
  | fftBitrev log2n => exact honly (.bitrev s log2n)
  | oscSetShape field =>
    obtain ⟨o, ho⟩ := s.selectShape_eq field
    rw [commandWork, ho, State.setOsc_mod]
  | _ => rfl

theorem exec_gateOut {i : Instr} {s t : State} (hi : i ≠ .modProcess) (h : exec i s = .next t) :
    t.mod.gateOut = s.mod.gateOut := by
  rcases exec_cases h with ⟨_, rfl⟩ | ⟨_, rfl⟩
  · rw [State.raiseFault_mod]
  · rw [State.complete_mod, commandWork_gateOut s hi]

theorem State.issue_mod (s : State) (w : Word) : (s.issue w).mod = s.mod := by
  unfold State.issue
  split <;> rfl

theorem State.writeReg_gateOut (s : State) (r : Reg) (v : Word) : (s.writeReg r v).mod.gateOut = s.mod.gateOut := by
  cases r with
  | cmd => exact congrArg ModuleRegs.gateOut (s.issue_mod v)
  | _ => rfl

theorem State.writeWindow_gateOut (s : State) (off : Nat) (v : Word) :
    (s.writeWindow off v).mod.gateOut = s.mod.gateOut := by
  rcases s.writeWindow_cases off v with h | h | ⟨r, _, h⟩
  · rw [h]
  · rw [h, State.writeWord_mod]
  · rw [h, State.writeReg_gateOut]

/-- GATE_OUT changes in no step but a reset and the run of a MOD_PROCESS (R163). -/
theorem step_gateOut_changes {s t : State} (h : step s = .next t) (hne : t.mod.gateOut ≠ s.mod.gateOut) :
    s.resetIn = true ∨ ∃ l, s.seq = some l ∧ decode l.word = .ok .modProcess := by
  rcases step_cases h with ⟨hr, _⟩ | ⟨_, _, _, rfl⟩ | ⟨a, rest, _, _, _, hperform⟩ | ⟨l, _, hs, hrun⟩
  · exact .inl hr
  · exact absurd rfl hne
  · rcases State.perform_effect hperform with ⟨rs, rfl⟩ | ⟨v, rs, _, rfl⟩
    · exact absurd rfl hne
    · exact absurd (State.writeWindow_gateOut _ _ _) hne
  · rcases State.runCommand_cases hrun with ⟨i, hd, hexec⟩ | rfl
    · by_cases hi : i = .modProcess
      · exact .inr ⟨l, hs, hi ▸ hd⟩
      · exact absurd (exec_gateOut hi hexec) hne
    · exact absurd rfl hne

theorem gatesOf_table : gatesOf 0#2 = 2#2 ∧ gatesOf 1#2 = 1#2 ∧ gatesOf 2#2 = 1#2 ∧ gatesOf 3#2 = 2#2 := by decide

theorem exec_modProcess_gateOut {s t : State} (hc : s.collab ≠ none) (h : exec .modProcess s = .next t) :
    t.mod.gateOut = gatesOf s.mod.gateIn := by
  obtain ⟨c, hc⟩ := Option.ne_none_iff_exists'.mp hc
  rw [eq_closeBlock_of_exec hc h, State.complete_mod, State.closeBlock_mod]
  rfl

/-- Settles O47: the table is that of `gatesOf`; the rest by `exec_gateOut`, `State.writeWindow_gateOut` and
`step_gateOut_changes`. -/
theorem gateTruthTable : Obligations.GateTruthTable := by
  refine ⟨fun s t hc h => ?_, fun i s t => exec_gateOut, State.writeWindow_gateOut, fun s t => step_gateOut_changes⟩
  obtain ⟨h0, h1, h2, h3⟩ := gatesOf_table
  rw [exec_modProcess_gateOut hc h]
  exact ⟨fun hg => hg ▸ h0, fun hg => hg ▸ h1, fun hg => hg ▸ h2, fun hg => hg ▸ h3⟩

end Sys2Proof.Machine

/-! Completion and faults (R167 to R172): O20 and O22. A command has two ends, the completion of its work and the recorded fault
(`State.Completes`, `State.Faults`); `exec` answers one of them from every state, and so does the run of any word, since a word
that decodes to no command faults. -/

namespace Sys2Proof.Machine

open Sys2Proof

/-! ### The two ends of a command (R168, R172) -/

/-- A command that began in `s` has completed in `t` (R168): DONE is set, and ERR and the record of the last fault stand. -/
def State.Completes (s t : State) : Prop :=
  t.done = true ∧ t.err = s.err ∧ t.errCause = s.errCause ∧ t.errCmd = s.errCmd

/-- A command that began in `s` has faulted in `t`, with a cause of the table and only R172's fields written. -/
def State.Faults (s t : State) : Prop := ∃ c, c ≠ .none ∧ t = s.raiseFault c

theorem commandWork_completes (i : Instr) (s : State) : s.Completes (commandWork i s).complete :=
  ⟨rfl, commandWork_faultRecord i s⟩

/-- A fault written out: DONE stands, and ERR_CMD is the word the command was run with (R172). -/
theorem State.Faults.record {s t : State} (h : s.Faults t) :
    t.err = true ∧ t.errCause ≠ .none ∧ t.errCmd = s.operands.word ∧ t.done = s.done := by
  obtain ⟨c, hc, rfl⟩ := h
  exact ⟨rfl, hc, rfl, rfl⟩

/-- A fault as a change of R172's fields alone. -/
theorem State.Faults.changesOnly {s t : State} (h : s.Faults t) :
    ∃ c, c ≠ .none ∧ t = { s with errCause := c, errCmd := t.errCmd, err := true, seq := none } := by
  obtain ⟨c, hc, rfl⟩ := h
  exact ⟨c, hc, rfl⟩

/-! ### Every command, and every word, reaches one of them (R170) -/

/-- Which end a command reaches is the table's choice (`dueFault`); both leave the core IDLE. -/
theorem exec_completes_or_faults (i : Instr) (s : State) :
    ∃ t, exec i s = .next t ∧ t.seq = none ∧ (s.Completes t ∨ s.Faults t) := by
  by_cases hdue : dueFault i s = .none
  · exact ⟨_, exec_of_no_fault hdue, rfl, .inl (commandWork_completes i s)⟩
  · exact ⟨_, exec_of_fault rfl hdue, rfl, .inr ⟨_, hdue, rfl⟩⟩

theorem State.runCommand_completes_or_faults (s : State) (w : Word) :
    ∃ t, s.runCommand w = .next t ∧ t.seq = none ∧ (s.Completes t ∨ s.Faults t) := by
  by_cases hw : inOpcodeTable w
  · obtain ⟨i, hd⟩ := (decoderTakesExactlyTheTable w).mpr hw
    rw [State.runCommand_of_decode hd]
    exact exec_completes_or_faults i s
  · exact ⟨_, runCommand_of_not_inOpcodeTable s hw, rfl, .inr ⟨.illegalCmd, by decide, rfl⟩⟩

/-- Settles O20: the step of a BUSY core runs its latched word after the STATUS reads are answered, which touches neither the
status bits nor the operands. -/
theorem everyCommandCompletesOrFaults : Obligations.EveryCommandCompletesOrFaults := by
  refine ⟨fun i s => ?_, fun s l hr hs => ?_⟩
  · obtain ⟨t, hexec, hidle, hend⟩ := exec_completes_or_faults i s
    exact ⟨t, hexec, hidle, hend.imp_right State.Faults.changesOnly⟩
  · obtain ⟨t, hrun, hidle, hend⟩ := s.answerPolls.runCommand_completes_or_faults l.word
    have hword : s.answerPolls.operands.word = l.word := by rw [State.answerPolls_operands, State.operands_of_busy hs]
    exact ⟨t, (step_of_busy hr hs).trans hrun, hidle, hend.imp_right fun hfault => hword ▸ hfault.record⟩

/-- Settles O22: NOP has no row in the table of causes and an empty stage 5, so it is completion alone. -/
theorem nopOnlyCompletes : Obligations.NopOnlyCompletes := fun _ => exec_of_no_fault rfl

end Sys2Proof.Machine

/-! Faults and the interrupt (R171 to R181): O12, O14, O15 and O21. The value of ERR takes no part in an access to any register but
STATUS and CMD (`State.setErr_writeWindow`, `State.setErr_readWindow`); and with ERR set a CMD write is discarded, so no host write
starts a command or touches the record of the first fault (`KeepsFirstFault`). -/

namespace Sys2Proof.Machine

open Sys2Proof

/-! ### The table of causes (R171, R172, R176) -/

theorem State.raiseFault_eq_faulted (s : State) (c : Cause) : s.raiseFault c = faulted s c := rfl

/-- Settles O21: a command with a cause of the table records it (`exec_of_fault`), one without does its work and completes. -/
theorem faultsAreThoseOfTheTable : Obligations.FaultsAreThoseOfTheTable := by
  refine fun i s => ⟨fun hdue => ?_, fun hdue => ⟨_, exec_of_no_fault hdue, commandWork_completes i s⟩⟩
  rw [← State.raiseFault_eq_faulted]
  exact exec_of_fault rfl hdue

/-! ### The interrupt output (R178) -/

theorem State.readWindow_irqEn_bits (s : State) :
    (s.readWindow 0x014).getLsbD 0 = s.doneIe ∧ (s.readWindow 0x014).getLsbD 1 = s.errIe := by
  rw [s.readWindow_reg .irqEn rfl, State.readReg]
  exact ⟨BitVec.getLsbD_setWidth .., BitVec.getLsbD_setWidth ..⟩

/-- Settles O12: the bits of STATUS and of IRQ_EN as read are DONE, ERR and their enables. -/
theorem interruptFollowsStatusAndEnables : Obligations.InterruptFollowsStatusAndEnables := by
  intro s
  obtain ⟨_, hdone, herr, _⟩ := s.statusWord_bits
  obtain ⟨hdoneIe, herrIe⟩ := s.readWindow_irqEn_bits
  rw [s.readWindow_status, hdone, herr, hdoneIe, herrIe, State.irq]

/-! ### ERR written alone -/

/-- ERR given a value and nothing else changed. -/
def State.setErr (s : State) (b : Bool) : State := { s with err := b }

@[simp] theorem State.setErr_err (s : State) (b : Bool) : (s.setErr b).err = b := rfl

@[simp] theorem State.setErr_setErr (s : State) (b c : Bool) : (s.setErr b).setErr c = s.setErr c := rfl

theorem State.setErr_of_err {s : State} {b : Bool} (h : s.err = b) : s.setErr b = s := by
  rw [← h]; rfl

/-- The return from a fault clears ERR and restores nothing (R181). -/
theorem State.returnFromFault_eq (s : State) : s.returnFromFault = s.setErr false := by
  simp [State.returnFromFault, State.writeStatus, State.setErr]

/-- Settles O14: the write is one to STATUS, it leaves ERR 0 (`State.returnFromFault_eq`), and a CMD write with ERR 0 is
accepted. -/
theorem returnFromFaultClearsErr : Obligations.ReturnFromFaultClearsErr := by
  intro s
  have hwrite : s.writeWindow 0x010 0x00000004#32 = s.returnFromFault := s.writeWindow_reg _ .status rfl
  refine ⟨hwrite.trans s.returnFromFault_eq, hwrite.symm, fun w => ?_⟩
  have hissue : s.returnFromFault.writeWindow 0x020 w = (s.setErr false).accept w := by
    rw [State.writeWindow_reg _ w .cmd rfl, s.returnFromFault_eq]
    exact State.issue_of_not_err (s.setErr_err false)
  rw [hissue]
  exact ⟨rfl, rfl⟩

/-! ### What ERR takes no part in (R174) -/

theorem regAt_status {off : Nat} (h : regAt off = some .status) : off = 0x010 :=
  (by decide : ∀ row ∈ registerMap, row.2 = .status → row.1 = 0x010) _ (mem_of_regIn h) rfl

theorem State.setErr_readReg (s : State) (b : Bool) {r : Reg} (h : r ≠ .status) : (s.setErr b).readReg r = s.readReg r := by
  cases r with
  | status => exact absurd rfl h
  | _ => rfl

theorem State.setErr_writeReg (s : State) (b : Bool) (v : Word) {r : Reg} (hstatus : r ≠ .status) (hcmd : r ≠ .cmd) :
    (s.setErr b).writeReg r v = (s.writeReg r v).setErr b := by
  cases r with
  | status => exact absurd rfl hstatus
  | cmd => exact absurd rfl hcmd
  | _ => rfl

theorem State.setErr_readWindow (s : State) (b : Bool) {off : Nat} (h : off ≠ 0x010) :
    (s.setErr b).readWindow off = s.readWindow off := by
  cases hr : regAt off with
  | some r =>
    have hstatus : r ≠ .status := by rintro rfl; exact h (regAt_status hr)
    rw [State.readWindow_reg _ r hr, s.readWindow_reg r hr, s.setErr_readReg b hstatus]
  | none =>
    cases hs : isStorage off with
    | true => rw [State.readWindow_storage _ hs, s.readWindow_storage hs]; rfl
    | false => rw [State.readWindow_reserved _ hr hs, s.readWindow_reserved hr hs]

theorem State.setErr_writeWindow (s : State) (b : Bool) (v : Word) {off : Nat} (hstatus : off ≠ 0x010)
    (hcmd : off ≠ 0x020) : (s.setErr b).writeWindow off v = (s.writeWindow off v).setErr b := by
  cases hr : regAt off with
  | some r =>
    have hnotStatus : r ≠ .status := by rintro rfl; exact hstatus (regAt_status hr)
    have hnotCmd : r ≠ .cmd := by rintro rfl; exact hcmd (regAt_cmd hr)
    rw [State.writeWindow_reg _ v r hr, s.writeWindow_reg v r hr, s.setErr_writeReg b v hnotStatus hnotCmd]
  | none =>
    cases hs : isStorage off with
    | true => rw [State.writeWindow_storage _ v hs, s.writeWindow_storage v hs]; rfl
    | false => rw [State.writeWindow_reserved _ v hr hs, s.writeWindow_reserved v hr hs]

/-! ### The first fault is kept (R174) -/

/-- From `s` to `t` no command has begun or completed, and the record of the fault stands. -/
structure KeepsFirstFault (s t : State) : Prop where
  seq : t.seq = s.seq
  errCause : t.errCause = s.errCause
  errCmd : t.errCmd = s.errCmd
  cmd : t.cmd = s.cmd
  done : t.done = true → s.done = true

theorem KeepsFirstFault.refl (s : State) : KeepsFirstFault s s := ⟨rfl, rfl, rfl, rfl, id⟩

/-- A STATUS write can only clear DONE, and a CMD write is discarded while ERR is 1. -/
theorem KeepsFirstFault.writeReg {s : State} (herr : s.err = true) (r : Reg) (v : Word) :
    KeepsFirstFault s (s.writeReg r v) := by
  cases r with
  | cmd =>
    rw [State.writeReg, State.issue_of_err herr]
    exact .refl s
  | status => exact ⟨rfl, rfl, rfl, rfl, Bool.and_elim_left⟩
  | _ => exact ⟨rfl, rfl, rfl, rfl, id⟩

theorem KeepsFirstFault.writeWindow {s : State} (herr : s.err = true) (off : Nat) (v : Word) :
    KeepsFirstFault s (s.writeWindow off v) := by
  rcases s.writeWindow_cases off v with h | h | ⟨r, _, h⟩
  · rw [h]; exact .refl s
  · rw [h]; exact ⟨rfl, rfl, rfl, rfl, id⟩
  · rw [h]; exact .writeReg herr r v

/-- An IDLE core performs at most one host access, and its only effect can be a write. -/
theorem KeepsFirstFault.step_idle {s t : State} (herr : s.err = true) (hr : s.resetIn = false) (hs : s.seq = none)
    (h : step s = .next t) : KeepsFirstFault s t := by
  rcases step_cases h with ⟨hreset, _⟩ | ⟨_, _, _, rfl⟩ | ⟨a, rest, _, _, _, hperform⟩ | ⟨l, _, hbusy, _⟩
  · rw [hr] at hreset; cases hreset
  · exact .refl _
  · rcases State.perform_effect hperform with ⟨rs, rfl⟩ | ⟨v, rs, _, rfl⟩
    · exact ⟨rfl, rfl, rfl, rfl, id⟩
    · obtain ⟨hseq, hcause, herrCmd, hcmd, hdone⟩ := KeepsFirstFault.writeWindow (s := s.setBus rest) herr a.offset v
      exact ⟨hseq, hcause, herrCmd, hcmd, hdone⟩
  · rw [hs] at hbusy; cases hbusy

/-- Settles O15: a CMD write is discarded; `s` is the state with ERR 0 and ERR then set, which any other write leaves to the end
(`State.setErr_writeWindow`); and an IDLE step is `KeepsFirstFault.step_idle`. -/
theorem firstFaultIsKept : Obligations.FirstFaultIsKept := by
  intro s herr
  refine ⟨fun w => ?_, fun off v hstatus hcmd => ⟨?_, (s.setErr_readWindow false hstatus).symm⟩, fun t hr hs h => ?_⟩
  · rw [s.writeWindow_reg w .cmd rfl]
    exact State.issue_of_err herr
  · calc s.writeWindow off v = ((s.setErr false).setErr true).writeWindow off v := by
          rw [State.setErr_setErr, State.setErr_of_err herr]
      _ = ((s.setErr false).writeWindow off v).setErr true := State.setErr_writeWindow _ true v hstatus hcmd
  · obtain ⟨hseq, hcause, herrCmd, hcmd, hdone⟩ := KeepsFirstFault.step_idle herr hr hs h
    exact ⟨hseq.trans hs, hcause, herrCmd, hcmd, hdone⟩

end Sys2Proof.Machine

/-! Reset (R193, R194): O53, O54 and O55. Every register of the map resets to zero but the four that say what the core is or which
gate is closed (`Reg.resetsToZero`), and the count of resets is in no register (`State.takeReset_readReg`) and no part of the
invariant. -/

namespace Sys2Proof.Machine

open Sys2Proof

/-! ### The values of R26's table -/

/-- The registers whose reset value in R26 is 0. -/
def Reg.resetsToZero : Reg → Bool
  | .id | .cfg0 | .cfg1 | .gateOut => false
  | _ => true

theorem State.reset_readReg {r : Reg} (h : r.resetsToZero = true) : State.reset.readReg r = 0#32 := by
  cases r with
  | id | cfg0 | cfg1 | gateOut => cases h
  | ctl c => cases c <;> rfl
  | prm p => cases p <;> rfl
  | _ => rfl

theorem State.reset_readWindow {off : Nat} (h : (regAt off).any Reg.resetsToZero = true) :
    State.reset.readWindow off = 0#32 := by
  obtain ⟨r, hr, hzero⟩ := (Option.any_eq_true _ _).mp h
  rw [State.reset.readWindow_reg r hr, State.reset_readReg hzero]

/-- Settles O53: ID and GATE_OUT hold their constants, CFG0 and CFG1 their parameters in every state (`configurationRegisters`),
and the offsets listed are those of registers that reset to zero. -/
theorem resetRegisterValues : Obligations.ResetRegisterValues := by
  obtain ⟨hcfg0, hcfg1, _⟩ := configurationRegisters State.reset
  refine ⟨State.reset.readWindow_reg .id rfl, State.reset.readWindow_reg .gateOut rfl, hcfg0, hcfg1,
    fun off hoff => State.reset_readWindow ?_, rfl, rfl⟩
  revert off
  decide

/-! ### The reset input (R193) -/

theorem step_of_reset {s : State} (h : s.resetIn = true) : step s = .next s.takeReset := by
  rw [step, h]

theorem State.takeReset_readReg (s : State) (r : Reg) : s.takeReset.readReg r = State.reset.readReg r := by
  cases r <;> rfl

/-- Below 0x100 the window holds registers alone, so what memory was drawn at the reset is not read there (R71). -/
theorem State.takeReset_readWindow (s : State) {off : Nat} (h : off < 0x100) :
    s.takeReset.readWindow off = State.reset.readWindow off := by
  cases hr : regAt off with
  | some r => rw [State.readWindow_reg _ r hr, State.readWindow_reg _ r hr, s.takeReset_readReg]
  | none =>
    have hs : isStorage off = false := Bool.eq_false_iff.mpr fun hs => Nat.not_lt.mpr (storage_ge hs) h
    rw [State.readWindow_reserved _ hr hs, State.readWindow_reserved _ hr hs]

/-- Settles O54: the step takes the reset, which differs from the state after reset in the count of resets alone. -/
theorem resetInputResets : Obligations.ResetInputResets :=
  fun s hr => ⟨s.takeReset, step_of_reset hr, rfl, fun _ => s.takeReset_readWindow⟩

/-! ### The invariant -/

/-- Settles O55: a reset taken establishes each part of the invariant (`State.takeReset_inv`), and none reads the count of resets. -/
theorem resetMeetsTheInvariant : Obligations.ResetMeetsTheInvariant := by
  obtain ⟨hmemory, hlatch, herror, hselectors, hgates, hprepared⟩ := State.reset.takeReset_inv
  exact ⟨hmemory, hlatch, herror, hselectors, hgates, hprepared⟩

end Sys2Proof.Machine
